-- ==== Sys2Proof/Word.lean ====
section
/-! DEFINITION. The words that cross the engine's ports and the width of its counters (00_scope.md R12).
A register's bit `Rk[i]` is bit `i` of a bit vector (assumption 4); in command and response words bit 0 is
the least significant bit (R14). -/

namespace Sys2Proof

/-- A command word, `CWW` = 24 bits (R12, 30_encoding.md R52). -/
abbrev CmdWord := BitVec 24

/-- A response word, `RSPW` = 8 bits (R12, 30_encoding.md R60). -/
abbrev RspWord := BitVec 8

/-- A declared length or a progress count, `LENW` = 8 bits, unsigned (R12, 10_state.md R25, R27). -/
abbrev Len := BitVec 8

/-- The longest sequence that `LENW` bits can declare (R12). -/
abbrev maxDeclared : Nat := 255

end Sys2Proof
end

