-- ==== Sys2Proof/Config.lean ====
section
/-! DEFINITION. What an instance of the engine fixes: the wiring of the three registers and the number of
discard clocks (00_scope.md R10, R11; 10_state.md R22), and the free values (10_state.md R34). -/

namespace Sys2Proof

/-- The three registers of the register file (10_state.md R20). -/
inductive RegName where
  | r1 | r2 | r3
  deriving DecidableEq, Repr

/-- `LEN[k]`, the number of stages of register `k` (R10, R20). -/
def RegName.len : RegName → Nat
  | .r1 => 19
  | .r2 => 22
  | .r3 => 23

/-- The constant taps of one register (R22): feedback tap indices `TAPS[k]`, clock-control index `CLK[k]`,
output index `OUT[k]`. -/
structure Wiring where
  taps : List Nat
  clk  : Nat
  out  : Nat
  deriving DecidableEq, Repr

/-- The parameters of an instance (R10, R11): one wiring a register, and `NDISC`. -/
structure Config where
  r1    : Wiring
  r2    : Wiring
  r3    : Wiring
  ndisc : Nat
  deriving DecidableEq, Repr

/-- The wiring of register `k`. -/
def Config.wiring (c : Config) : RegName → Wiring
  | .r1 => c.r1
  | .r2 => c.r2
  | .r3 => c.r3

/-- The constraints of R11 on the wiring of a register of `n` stages: `TAPS` is a set, and every index lies
in `[0, n)`. -/
def Wiring.valid (n : Nat) (w : Wiring) : Bool :=
  w.taps.all (· < n) && decide w.taps.Nodup && decide (w.clk < n) && decide (w.out < n)

/-- The constraints of R10 and R11 on an instance. The upper bound of `NDISC` is the 8-bit `COUNT`'s (R25). -/
def Config.valid (c : Config) : Bool :=
  c.r1.valid RegName.r1.len && c.r2.valid RegName.r2.len && c.r3.valid RegName.r3.len &&
    decide (1 ≤ c.ndisc) && decide (c.ndisc ≤ maxDeclared)

/-- The instance the spec describes: the table of R11 (the "D1 values") and `NDISC` = 100 (R10). Assumption 3. -/
def Config.std : Config where
  r1 := { taps := [13, 16, 17, 18], clk := 8, out := 18 }
  r2 := { taps := [20, 21], clk := 10, out := 21 }
  r3 := { taps := [7, 20, 21, 22], clk := 10, out := 22 }
  ndisc := 100

/-- `KLEN_CANON` (R10); the engine does not enforce it. -/
def Config.canonicalKeyLen : Nat := 64

/-- `FLEN_CANON` (R10); the engine does not enforce it. -/
def Config.canonicalFrameLen : Nat := 22

/-- FREE VALUE: the bits of R1 after the `n`-th hardware reset (R34, assumption 1). -/
opaque Config.freeR1 : Nat → BitVec 19

/-- FREE VALUE: the bits of R2 after the `n`-th hardware reset (R34, assumption 1). -/
opaque Config.freeR2 : Nat → BitVec 22

/-- FREE VALUE: the bits of R3 after the `n`-th hardware reset (R34, assumption 1). -/
opaque Config.freeR3 : Nat → BitVec 23

/-- FREE VALUE: what `rsp_word` carries after the `n`-th hardware reset, while no response is presented
(assumption 2). -/
opaque Config.freeRsp : Nat → RspWord

end Sys2Proof
end

