-- ==== Sys2Proof/Machine/State.lean ====
section
/-! DEFINITION. All the state of the engine (10_state.md), the registered outputs of its response port and the
host's pending inputs, as plain data. -/

namespace Sys2Proof.Machine

open Sys2Proof

/-- `PHASE`, the initialization phase (10_state.md R24). Codes 6 and 7 are never held, so the type lacks them
(93_implementation_defined.md U7). -/
inductive Phase where
  /-- After hardware reset; no `ZERO` has succeeded yet. -/
  | notStarted
  /-- `ZERO` has succeeded; no key bit mixed yet in this episode. -/
  | zeroed
  /-- At least one and fewer than `KLEN` key bits mixed. -/
  | keyMixing
  /-- All key bits mixed; fewer than `FLEN` frame bits mixed. -/
  | frameMixing
  /-- All frame bits mixed; fewer than `NDISC` discard clocks done. -/
  | discardClocking
  /-- Initialization complete; keystream generation is valid. -/
  | ready
  deriving DecidableEq, Repr

/-- The errors of a command (60_exceptions.md R170). They are response codes, not faults of the machine (R176). -/
inductive Err where
  /-- The command's home phase has not been reached. -/
  | invalidPhaseTransition
  /-- The command's home phase is already complete in this episode. -/
  | phaseOverrun
  /-- A declared length is 0, or a `RUNALL` sequence is empty. -/
  | emptyInput
  /-- `READ` of an index outside the register. -/
  | indexOutOfRange
  /-- The reserved register select. -/
  | illegalCommand
  /-- The Codec's; the engine never reports it. -/
  | malformedBitstream
  deriving DecidableEq, Repr

/-- One thing the host does next (30_encoding.md R51, R64). -/
inductive HostInput where
  /-- The input ports during one clock period: `rst`, `cmd_valid`, `cmd_word`. -/
  | period (rst cmdValid : Bool) (cmdWord : CmdWord)
  /-- A driver call of `RUNALL key, frame` (42_init_sequencer.md R108), one transition (R109). -/
  | runAll (key frame : List Bool)
  deriving DecidableEq, Repr

/-- What the host-side driver last reported to the caller of `RUNALL` (42_init_sequencer.md R108, R109); the
driver stands beside the engine, so its report is not the response port's (assumption 6). -/
inductive DriverReport where
  /-- No `RUNALL` has been reported yet. -/
  | nothing
  /-- The last `DISCARD` of the sequence has completed. -/
  | completed
  /-- The call failed with the error, and nothing was issued. -/
  | failed (e : Err)
  deriving DecidableEq, Repr

/-- The machine's state. -/
structure State where
  /-- R1, 19 stages; bit `i` is `R1[i]` (R20). -/
  r1 : BitVec 19
  /-- R2, 22 stages (R20). -/
  r2 : BitVec 22
  /-- R3, 23 stages (R20). -/
  r3 : BitVec 23
  /-- `PHASE` (R24). -/
  phase : Phase
  /-- `COUNT`, the within-phase progress counter (R25). -/
  count : Len
  /-- `KLEN`, the declared key length of the episode (R27). -/
  klen : Len
  /-- `FLEN`, the declared frame length of the episode (R27). -/
  flen : Len
  /-- `rsp_valid` as registered at the last clock edge (30_encoding.md R64). -/
  rspValid : Bool
  /-- `rsp_word`: the response of the last command, kept until the next one (R33). -/
  rspWord : RspWord
  /-- What the host will do, next first (assumption 5). -/
  inputs : List HostInput
  /-- The driver's last report (R108, R109; assumption 6). -/
  driverReport : DriverReport
  /-- The model's own counter of hardware resets, the argument of the free values (assumption 1). -/
  draws : Nat
  deriving DecidableEq, Repr

/-- The faults that stop the machine: none. Every command has an outcome in every state, and an error is a
response (60_exceptions.md R176, R184). -/
inductive Fault where
  deriving DecidableEq, Repr

/-- Why an instruction has no meaning. -/
inductive Refusal where
  /-- Raised by `exec` for an instruction that has no meaning yet; safe. No instruction is left so. -/
  | notModelled (mnemonic : String)
  /-- Raised by `RUNALL` with a key or frame longer than 255 bits: "the driver refuses it before issuing
  anything" (42_init_sequencer.md R108, 93_implementation_defined.md U8); safe (assumption 7). -/
  | runallSequenceTooLong
  deriving DecidableEq, Repr

/-- The machine right after hardware reset (10_state.md R34): the register bits are unspecified, a free value
(assumption 1). -/
def State.reset : State where
  r1 := Config.freeR1 0
  r2 := Config.freeR2 0
  r3 := Config.freeR3 0
  phase := .notStarted
  count := 0#8
  klen := 0#8
  flen := 0#8
  rspValid := false
  rspWord := Config.freeRsp 0
  inputs := []
  driverReport := .nothing
  draws := 0

end Sys2Proof.Machine
end

