-- ==== Sys2Proof/Machine/Flags.lean ====
section
/-! DEFINITION. The computed bits and codes the engine reports: the majority (41_clock_controller.md R90), the
mask of advanced registers (30_encoding.md R60), the error codes (60_exceptions.md R170), the response word
(R60) and the phase codes (10_state.md R24). -/

namespace Sys2Proof.Machine

open Sys2Proof

/-- `maj(c1, c2, c3)`: 1 if the integer sum of the three bits is at least 2, else 0 (R90). -/
def maj (c1 c2 c3 : Bool) : Bool := decide (2 ≤ c1.toNat + c2.toNat + c3.toNat)

/-- The set of advanced registers as a mask: bit 0 is R1, bit 1 is R2, bit 2 is R3 (R60). -/
def clockedMask (a1 a2 a3 : Bool) : BitVec 3 := BitVec.ofBool a3 ++ BitVec.ofBool a2 ++ BitVec.ofBool a1

/-- The numeric code of an outcome: 0 is success (R170). -/
def errCode : Option Err → BitVec 3
  | none => 0#3
  | some .invalidPhaseTransition => 1#3
  | some .phaseOverrun => 2#3
  | some .emptyInput => 3#3
  | some .indexOutOfRange => 4#3
  | some .illegalCommand => 5#3
  | some .malformedBitstream => 6#3

/-- The response word: `err[7:5]`, `bit[4]`, `maj[3]`, `clocked[2:0]` (R60). -/
def responseWord (err : Option Err) (bit maj : Bool) (clocked : BitVec 3) : RspWord :=
  errCode err ++ BitVec.ofBool bit ++ BitVec.ofBool maj ++ clocked

/-- `rsp[7:5]` (R60). -/
def rspErr (w : RspWord) : BitVec 3 := w.extractLsb' 5 3

/-- `rsp[4]` (R60). -/
def rspBit (w : RspWord) : Bool := w.getLsbD 4

/-- `rsp[3]` (R60). -/
def rspMaj (w : RspWord) : Bool := w.getLsbD 3

/-- `rsp[2:0]` (R60). -/
def rspClocked (w : RspWord) : BitVec 3 := w.extractLsb' 0 3

/-- The code of a phase, driven on the port `phase[2:0]` (R24, R36). -/
def phaseCode : Phase → BitVec 3
  | .notStarted => 0#3
  | .zeroed => 1#3
  | .keyMixing => 2#3
  | .frameMixing => 3#3
  | .discardClocking => 4#3
  | .ready => 5#3

/-- The rank of a phase is its code (R24). -/
def phaseRank (p : Phase) : Nat := (phaseCode p).toNat

/-- The phase check of 42_init_sequencer.md R102 for a command whose home phases are those from `first` to
`last`: none where it may execute, else the error it fails with. -/
def phaseError (first last p : Phase) : Option Err :=
  if phaseRank p < phaseRank first then some .invalidPhaseTransition
  else if phaseRank last < phaseRank p then some .phaseOverrun
  else none

end Sys2Proof.Machine
end

