-- ==== Sys2Proof/Machine/Operands.lean ====
section
/-! DEFINITION. The operand forms that select something: the register select and the bit index of format A
(30_encoding.md R53, R55), and the lengths a `RUNALL` declares (42_init_sequencer.md R108). Every other
operand is its field as is (R56). -/

namespace Sys2Proof.Machine

open Sys2Proof

/-- The register a select names: 0 is R1, 1 is R2, 2 is R3; 3 is reserved (R55, R58). -/
def selReg (sel : BitVec 2) : Option RegName :=
  match sel.toNat with
  | 0 => some .r1
  | 1 => some .r2
  | 2 => some .r3
  | _ => none

/-- The stage a `READ` names, where the register has one at that index (R56, 44_observation_commands.md R140). -/
def stageIndex (k : RegName) (idx : Nat) : Except Err Nat :=
  if k.len ≤ idx then .error .indexOutOfRange else .ok idx

/-- The length of a sequence as the operand of `ZERO` (R108). -/
def declaredLen (bits : List Bool) : Len := BitVec.ofNat 8 bits.length

end Sys2Proof.Machine
end

