-- ==== Sys2Proof/Machine/Ops.lean ====
section
/-! DEFINITION. The named operations the meanings are built from: the register primitives
(40_register_primitives.md), the clock controller (41_clock_controller.md), responses and errors
(60_exceptions.md), phase changes (10_state.md R26) and hardware reset (70_reset_and_hazards.md R190).
`c` is the instance's wiring (10_state.md R22). -/

namespace Sys2Proof.Machine

open Sys2Proof

/-- `Rk[i]`, for an index inside the register (R13). -/
def regBit (k : RegName) (i : Nat) (s : State) : Bool :=
  match k with
  | .r1 => s.r1.getLsbD i
  | .r2 => s.r2.getLsbD i
  | .r3 => s.r3.getLsbD i

/-- `reg_zero(k)` (R70). -/
def regZero (k : RegName) (s : State) : State :=
  match k with
  | .r1 => { s with r1 := 0#19 }
  | .r2 => { s with r2 := 0#22 }
  | .r3 => { s with r3 := 0#23 }

/-- `fb(k, ext)`: the XOR of the feedback taps, and of the external bit where there is one (R71). -/
def fb (c : Config) (k : RegName) (ext : Option Bool) (s : State) : Bool :=
  let v := (c.wiring k).taps.foldl (fun v t => v ^^ regBit k t s) false
  match ext with
  | none => v
  | some e => v ^^ e

/-- `reg_shift(k, newBit)`: index `i` takes the prior value of index `i-1`, index 0 takes `newBit`; the result is
the output bit before the shift (R72). -/
def regShift (c : Config) (k : RegName) (newBit : Bool) (s : State) : Bool × State :=
  (regBit k (c.wiring k).out s,
    match k with
    | .r1 => { s with r1 := s.r1.shiftConcat newBit }
    | .r2 => { s with r2 := s.r2.shiftConcat newBit }
    | .r3 => { s with r3 := s.r3.shiftConcat newBit })

/-- `reg_clock(k, ext)`: the feedback of the contents before the shift is shifted in (R73). -/
def regClock (c : Config) (k : RegName) (ext : Option Bool) (s : State) : Bool × State :=
  regShift c k (fb c k ext s) s

/-- `bit_at(k, i)` (R74). -/
def bitAt (k : RegName) (i : Nat) (s : State) : Except Err Bool :=
  match stageIndex k i with
  | .error e => .error e
  | .ok j => .ok (regBit k j s)

/-- `clock_bit(k)` (R74). -/
def clockBit (c : Config) (k : RegName) (s : State) : Bool := regBit k (c.wiring k).clk s

/-- `output_bit(k)` (R74). -/
def outputBit (c : Config) (k : RegName) (s : State) : Bool := regBit k (c.wiring k).out s

/-- All three registers advance with the external bit `b`; their results are discarded (R103, R79). -/
def mixAll (c : Config) (b : Bool) (s : State) : State :=
  let s1 := (regClock c .r1 (some b) s).2
  let s2 := (regClock c .r2 (some b) s1).2
  (regClock c .r3 (some b) s2).2

/-- Register `k` advances without external input if it is to, else keeps its contents (R91). -/
def advanceIf (c : Config) (k : RegName) (advance : Bool) (s : State) : State :=
  if advance then (regClock c k none s).2 else s

/-- What a majority cycle returns "for observability" (R91), and the state after it. -/
structure MajorityCycle where
  /-- The advanced set as a mask. -/
  clocked : BitVec 3
  /-- The majority bit. -/
  majority : Bool
  /-- The state after the cycle. -/
  after : State
  deriving DecidableEq, Repr

/-- `decide_and_clock()`: all three clock bits are read first; then each register whose clock bit equals the
majority advances (R91). -/
def decideAndClock (c : Config) (s : State) : MajorityCycle :=
  let c1 := clockBit c .r1 s
  let c2 := clockBit c .r2 s
  let c3 := clockBit c .r3 s
  let m := maj c1 c2 c3
  { clocked := clockedMask (c1 == m) (c2 == m) (c3 == m)
    majority := m
    after := advanceIf c .r3 (c3 == m) (advanceIf c .r2 (c2 == m) (advanceIf c .r1 (c1 == m) s)) }

/-- The XOR of the three output taps (R130). -/
def outputXor (c : Config) (s : State) : Bool :=
  outputBit c .r1 s ^^ outputBit c .r2 s ^^ outputBit c .r3 s

/-- `respond(bit, maj, clocked)`: the response of a command that succeeds (R15, 30_encoding.md R60). -/
def respond (bit maj : Bool) (clocked : BitVec 3) (s : State) : State :=
  { s with rspValid := true, rspWord := responseWord none bit maj clocked }

/-- `fail E`: the response becomes `E << 5` and nothing else changes (R175, R176). This is the one place where the
engine takes an error; there is no entry to a handler and so no return from one (R177). -/
def failWith (e : Err) (s : State) : State :=
  { s with rspValid := true, rspWord := responseWord (some e) false false 0#3 }

/-- A command with a phase check: the check comes before every write (R102, R175). -/
def gated (first last : Phase) (body : State → State) (s : State) : State :=
  match phaseError first last s.phase with
  | some e => failWith e s
  | none => body s

/-- `PHASE <- p`, which also clears `COUNT` (R26). -/
def enterPhase (p : Phase) (s : State) : State := { s with phase := p, count := 0#8 }

/-- One more step of phase `p` is complete: with `limit` steps done the next phase is entered, else `COUNT` goes
on (R25, R103, R105, R107). The comparison is on integers (assumption 8). -/
def progress (p next : Phase) (limit : Nat) (s : State) : State :=
  if s.count.toNat + 1 = limit then enterPhase next s
  else { s with phase := p, count := s.count + 1#8 }

/-- The outcome of an accessor as a response (R140 to R142). -/
def observe (r : Except Err Bool) (s : State) : State :=
  match r with
  | .error e => failWith e s
  | .ok b => respond b false 0#3 s

/-- A clock period in which no command is taken: nothing changes, and no response follows (30_encoding.md R64). -/
def idlePeriod (s : State) : State := { s with rspValid := false }

/-- The driver reports `r` to the caller of `RUNALL` (42_init_sequencer.md R108, R109; assumption 6). -/
def reportDriver (r : DriverReport) (s : State) : State := { s with driverReport := r }

/-- `rst = 1` at a clock edge (R190): the state of R34, the register bits a fresh free value (assumption 1). The
host's later inputs and its driver's report are not the engine's and stay. -/
def hardwareReset (s : State) : State :=
  { r1 := Config.freeR1 (s.draws + 1)
    r2 := Config.freeR2 (s.draws + 1)
    r3 := Config.freeR3 (s.draws + 1)
    phase := .notStarted
    count := 0#8
    klen := 0#8
    flen := 0#8
    rspValid := false
    rspWord := Config.freeRsp (s.draws + 1)
    inputs := s.inputs
    driverReport := s.driverReport
    draws := s.draws + 1 }

end Sys2Proof.Machine
end

