-- ==== Sys2Proof/Machine/Keystream.lean ====
section
/-! DEFINITION. The keystream generator's command `NEXTBIT` (43_keystream_generator.md). -/

namespace Sys2Proof.Machine

open Sys2Proof

/-- `NEXTBIT` (R130): home phase `Ready`; the keystream bit is the XOR of the output taps as they stand AFTER the
majority cycle (R131, 90_conflicts.md C1). -/
def nextbitCmd (c : Config) : State → State :=
  gated .ready .ready fun s =>
    let cycle := decideAndClock c s
    respond (outputXor c cycle.after) cycle.majority cycle.clocked cycle.after

/-- The meaning of `NEXTBIT` (R130). -/
def execNextbit (s : State) : Host.Outcome State Fault Refusal := .next (nextbitCmd Config.std s)

end Sys2Proof.Machine
end

