-- ==== Sys2Proof/Machine/Observation.lean ====
section
/-! DEFINITION. The observation commands `READ`, `RDCLK`, `RDOUT` (44_observation_commands.md): valid in every
phase, they change no state but the response. -/

namespace Sys2Proof.Machine

open Sys2Proof

/-- An accessor on the selected register; the reserved select is checked first (R140, R174). -/
def observeSelected (sel : BitVec 2) (accessor : RegName → Except Err Bool) (s : State) : State :=
  match selReg sel with
  | none => failWith .illegalCommand s
  | some k => observe (accessor k) s

/-- `READ sel, idx` (R140). -/
def readCmd (sel : BitVec 2) (idx : BitVec 5) (s : State) : State :=
  observeSelected sel (fun k => bitAt k idx.toNat s) s

/-- `RDCLK sel` (R141). -/
def rdclkCmd (c : Config) (sel : BitVec 2) (s : State) : State :=
  observeSelected sel (fun k => .ok (clockBit c k s)) s

/-- `RDOUT sel` (R142). -/
def rdoutCmd (c : Config) (sel : BitVec 2) (s : State) : State :=
  observeSelected sel (fun k => .ok (outputBit c k s)) s

/-- The meaning of `READ` (R140). -/
def execRead (sel : BitVec 2) (idx : BitVec 5) (s : State) : Host.Outcome State Fault Refusal :=
  .next (readCmd sel idx s)

/-- The meaning of `RDCLK` (R141). -/
def execRdclk (sel : BitVec 2) (s : State) : Host.Outcome State Fault Refusal := .next (rdclkCmd Config.std sel s)

/-- The meaning of `RDOUT` (R142). -/
def execRdout (sel : BitVec 2) (s : State) : Host.Outcome State Fault Refusal := .next (rdoutCmd Config.std sel s)

end Sys2Proof.Machine
end

