-- ==== Sys2Proof/Machine/Sequencer.lean ====
section
/-! DEFINITION. The initialization sequencer's commands `ZERO`, `MIXKEY`, `MIXFRAME`, `DISCARD`
(42_init_sequencer.md). Each is a function of the instance and the state (`…Cmd`) and, at the instance the spec
describes, the meaning of its instruction (`exec…`). -/

namespace Sys2Proof.Machine

open Sys2Proof

/-- `ZERO klen, flen` (R101). -/
def zeroCmd (klen flen : Len) (s : State) : State :=
  if klen = 0#8 ∨ flen = 0#8 then failWith .emptyInput s
  else
    let s1 := regZero .r3 (regZero .r2 (regZero .r1 s))
    respond false false 0b000#3 (enterPhase .zeroed { s1 with klen := klen, flen := flen })

/-- `MIXKEY b` (R103): home phases `Zeroed` and `KeyMixing`. -/
def mixkeyCmd (c : Config) (b : Bool) : State → State :=
  gated .zeroed .keyMixing fun s =>
    respond false false 0b111#3 (progress .keyMixing .frameMixing s.klen.toNat (mixAll c b s))

/-- `MIXFRAME b` (R105): home phase `FrameMixing`. -/
def mixframeCmd (c : Config) (b : Bool) : State → State :=
  gated .frameMixing .frameMixing fun s =>
    respond false false 0b111#3 (progress .frameMixing .discardClocking s.flen.toNat (mixAll c b s))

/-- `DISCARD` (R107): home phase `DiscardClocking`. -/
def discardCmd (c : Config) : State → State :=
  gated .discardClocking .discardClocking fun s =>
    let cycle := decideAndClock c s
    respond false cycle.majority cycle.clocked (progress .discardClocking .ready c.ndisc cycle.after)

/-- The meaning of `ZERO` (R101). -/
def execZero (klen flen : Len) (s : State) : Host.Outcome State Fault Refusal := .next (zeroCmd klen flen s)

/-- The meaning of `MIXKEY` (R103). -/
def execMixkey (b : Bool) (s : State) : Host.Outcome State Fault Refusal := .next (mixkeyCmd Config.std b s)

/-- The meaning of `MIXFRAME` (R105). -/
def execMixframe (b : Bool) (s : State) : Host.Outcome State Fault Refusal := .next (mixframeCmd Config.std b s)

/-- The meaning of `DISCARD` (R107). -/
def execDiscard (s : State) : Host.Outcome State Fault Refusal := .next (discardCmd Config.std s)

end Sys2Proof.Machine
end

