-- ==== Sys2Proof/Syntax.lean ====
section
/-! DEFINITION. The commands of the engine (30_encoding.md R50), one constructor per row of
spec/opcode_table.json. Operands are the fields of the command word as they are (R56): the select stays two
bits, because its reserved value is a legal encoding that fails when executed (R58). -/

namespace Sys2Proof

/-- One command of R50 with its operands. -/
inductive Instr where
  /-- `ZERO klen, flen` (42_init_sequencer.md R101). -/
  | zero (klen flen : Len)
  /-- `MIXKEY b` (R103). -/
  | mixkey (b : Bool)
  /-- `MIXFRAME b` (R105). -/
  | mixframe (b : Bool)
  /-- `DISCARD` (R107). -/
  | discard
  /-- `NEXTBIT` (43_keystream_generator.md R130). -/
  | nextbit
  /-- `READ sel, idx` (44_observation_commands.md R140). -/
  | read (sel : BitVec 2) (idx : BitVec 5)
  /-- `RDCLK sel` (R141). -/
  | rdclk (sel : BitVec 2)
  /-- `RDOUT sel` (R142). -/
  | rdout (sel : BitVec 2)
  /-- `RUNALL key, frame`, the driver's pseudo-command (R108); element 0 is mixed first (20_memory.md R43). -/
  | runall (key frame : List Bool)
  deriving DecidableEq, Repr

/-- The eight commands the engine itself executes; `RUNALL` is the driver's (R50). -/
def Instr.isCore : Instr → Bool
  | .zero _ _ => true
  | .mixkey _ => true
  | .mixframe _ => true
  | .discard => true
  | .nextbit => true
  | .read _ _ => true
  | .rdclk _ => true
  | .rdout _ => true
  | .runall _ _ => false

end Sys2Proof
end

