-- ==== Sys2Proof/WellFormed.lean ====
section
/-! DEFINITION. When a command can be put into words. Every operand of the eight engine commands fits its
field by its type; a `RUNALL` sequence of more than 255 bits cannot be declared (42_init_sequencer.md R108). -/

namespace Sys2Proof

/-- Both lengths can be declared in the 8-bit operands of `ZERO` (R108, 93_implementation_defined.md U8). -/
def declarable (key frame : List Bool) : Bool :=
  decide (key.length ≤ maxDeclared) && decide (frame.length ≤ maxDeclared)

/-- A command that the encoding of 30_encoding.md can carry. -/
def Instr.wf : Instr → Bool
  | .zero _ _ => true
  | .mixkey _ => true
  | .mixframe _ => true
  | .discard => true
  | .nextbit => true
  | .read _ _ => true
  | .rdclk _ => true
  | .rdout _ => true
  | .runall key frame => declarable key frame

end Sys2Proof
end

