-- ==== Sys2Proof/Machine/Runall.lean ====
section
/-! DEFINITION. The driver's pseudo-command `RUNALL` (42_init_sequencer.md R108) as one transition (R109). -/

namespace Sys2Proof.Machine

open Sys2Proof

/-- `n` times `DISCARD`. -/
def discardTimes (c : Config) : Nat → State → State
  | 0, s => s
  | n + 1, s => discardTimes c n (discardCmd c s)

/-- The command sequence of R108: `ZERO`, one `MIXKEY` per key bit, one `MIXFRAME` per frame bit, both element 0
first (20_memory.md R43), then `NDISC` times `DISCARD`. -/
def runallCmd (c : Config) (key frame : List Bool) (s : State) : State :=
  let zeroed := zeroCmd (declaredLen key) (declaredLen frame) s
  let keyed := key.foldl (fun t b => mixkeyCmd c b t) zeroed
  let framed := frame.foldl (fun t b => mixframeCmd c b t) keyed
  discardTimes c c.ndisc framed

/-- The meaning of `RUNALL` (R108). With an empty sequence the driver fails and issues nothing, so that the period
is one in which no command is taken (30_encoding.md R64, assumption 6); a sequence that 8 bits cannot declare is
refused by the driver (93_implementation_defined.md U8, assumption 7). -/
def execRunall (key frame : List Bool) (s : State) : Host.Outcome State Fault Refusal :=
  if key.isEmpty || frame.isEmpty then .next (reportDriver (.failed .emptyInput) (idlePeriod s))
  else if declarable key frame then .next (reportDriver .completed (runallCmd Config.std key frame s))
  else .refused .runallSequenceTooLong

end Sys2Proof.Machine
end

