-- ==== Sys2Proof/Machine/Dispatch.lean ====
section
/-! DEFINITION. One arm per command. -/

namespace Sys2Proof.Machine

open Sys2Proof

/-- The outcome of one command in one state. -/
def exec (i : Instr) (s : State) : Host.Outcome State Fault Refusal :=
  match i with
  | .zero klen flen => Sys2Proof.Machine.execZero klen flen s
  | .mixkey b => Sys2Proof.Machine.execMixkey b s
  | .mixframe b => Sys2Proof.Machine.execMixframe b s
  | .discard => Sys2Proof.Machine.execDiscard s
  | .nextbit => Sys2Proof.Machine.execNextbit s
  | .read sel idx => Sys2Proof.Machine.execRead sel idx s
  | .rdclk sel => Sys2Proof.Machine.execRdclk sel s
  | .rdout sel => Sys2Proof.Machine.execRdout sel s
  | .runall key frame => Sys2Proof.Machine.execRunall key frame s

end Sys2Proof.Machine
end

