-- ==== Sys2Proof/Decode.lean ====
section
/-! DEFINITION. Decoder and encoder of command words (30_encoding.md R52 to R58). Every one of the 2^24 words
decodes to exactly one command (R58), so the word decoder has no reject; a bit string of any other length is no
command word and is rejected (R52). -/

namespace Sys2Proof

/-- `klen = cw[15:8]` (R56). -/
def klenField (w : CmdWord) : Len := w.extractLsb' 8 8

/-- `flen = cw[7:0]` (R56). -/
def flenField (w : CmdWord) : Len := w.extractLsb' 0 8

/-- `b = cw[0]` (R56). -/
def bField (w : CmdWord) : Bool := w.getLsbD 0

/-- `sel = cw[6:5]` (R56). -/
def selField (w : CmdWord) : BitVec 2 := w.extractLsb' 5 2

/-- `idx = cw[4:0]` (R56). -/
def idxField (w : CmdWord) : BitVec 5 := w.extractLsb' 0 5

/-- The command a word stands for: the opcode map of R54 on `cw[23:21]`, the operands of R56. Unused bits are
not looked at (R57). -/
def decode (w : CmdWord) : Instr :=
  match w.getLsbD 23, w.getLsbD 22, w.getLsbD 21 with
  | false, false, false => .zero (klenField w) (flenField w)
  | false, false, true  => .mixkey (bField w)
  | false, true,  false => .mixframe (bField w)
  | false, true,  true  => .discard
  | true,  false, false => .nextbit
  | true,  false, true  => .read (selField w) (idxField w)
  | true,  true,  false => .rdclk (selField w)
  | true,  true,  true  => .rdout (selField w)

/-- Why a bit string is no command word. -/
inductive DecodeReject where
  /-- It has `nbits` bits and not the 24 of R52: "fixed length; there are no other lengths". -/
  | notCommandWordLength (nbits : Nat)
  deriving DecidableEq, Repr

/-- The command word that the `nbits`-bit string `w` is: exactly 24 bits are one (R52). -/
def commandWord (nbits w : Nat) : Except DecodeReject CmdWord :=
  if nbits = 24 then .ok (BitVec.ofNat 24 w) else .error (.notCommandWordLength nbits)

/-- Decoding of any bit string (R52, R58). -/
def decodeBits (nbits w : Nat) : Except DecodeReject Instr :=
  match commandWord nbits w with
  | .ok cw => .ok (decode cw)
  | .error e => .error e

/-- The decoder on a word numbered as spec/opcode_table.json numbers it. Every row there that has a word has all its
24 bits, so a shorter string is no instruction with operand words left out. -/
def decodeTableWord (nbits w : Nat) : Option Instr :=
  match decodeBits nbits w with
  | .ok i => some i
  | .error _ => none

/-- The commands the driver issues for a `RUNALL` (R63, R108). -/
def runallCommands (ndisc : Nat) (key frame : List Bool) : List Instr :=
  .zero (BitVec.ofNat 8 key.length) (BitVec.ofNat 8 frame.length) ::
    (key.map .mixkey ++ frame.map .mixframe ++ List.replicate ndisc .discard)

/-- What reaches the engine: an engine command itself; for `RUNALL` its expansion, or nothing where the driver
fails or refuses it (R108). -/
def expand : Instr → List Instr
  | .zero klen flen => [.zero klen flen]
  | .mixkey b => [.mixkey b]
  | .mixframe b => [.mixframe b]
  | .discard => [.discard]
  | .nextbit => [.nextbit]
  | .read sel idx => [.read sel idx]
  | .rdclk sel => [.rdclk sel]
  | .rdout sel => [.rdout sel]
  | .runall key frame =>
    if key.isEmpty || frame.isEmpty || !declarable key frame then []
    else runallCommands Config.std.ndisc key frame

/-- The canonical word of an engine command: the formats of R53 with every unused bit 0 (R57); `RUNALL` has no
word of its own (R63). -/
def encodeWord : Instr → Option CmdWord
  | .zero klen flen => some (0b000#3 ++ 0#5 ++ klen ++ flen)
  | .mixkey b => some (0b001#3 ++ 0#20 ++ BitVec.ofBool b)
  | .mixframe b => some (0b010#3 ++ 0#20 ++ BitVec.ofBool b)
  | .discard => some (0b011#3 ++ 0#21)
  | .nextbit => some (0b100#3 ++ 0#21)
  | .read sel idx => some (0b101#3 ++ 0#14 ++ sel ++ idx)
  | .rdclk sel => some (0b110#3 ++ 0#14 ++ sel ++ 0#5)
  | .rdout sel => some (0b111#3 ++ 0#14 ++ sel ++ 0#5)
  | .runall _ _ => none

/-- The words of a command, in the order they are issued. -/
def encode (i : Instr) : List CmdWord := (expand i).filterMap encodeWord

end Sys2Proof
end

