-- ==== Sys2Proof/Machine/Ports.lean ====
section
/-! DEFINITION. The ports (30_encoding.md R51, R64; 10_state.md R36): what the engine takes from its input ports in
one clock period, and what it drives on its output ports. -/

namespace Sys2Proof.Machine

open Sys2Proof

/-- What one clock period, or one driver call, asks of the engine. -/
inductive PortEvent where
  /-- No command is taken. -/
  | idle
  /-- `rst = 1` at the clock edge. -/
  | reset
  /-- A command is taken. -/
  | command (i : Instr)
  deriving DecidableEq, Repr

/-- The event of one host input: reset has priority over a command (70_reset_and_hazards.md R192); a command is
taken where `cmd_valid = 1` and `rst = 0`, since `cmd_ready` is then 1 (R64). -/
def eventOf : HostInput → PortEvent
  | .period rst cmdValid cmdWord =>
    if rst then .reset else if cmdValid then .command (decode cmdWord) else .idle
  | .runAll key frame => .command (.runall key frame)

/-- The next event and the state with that input consumed. With no input left the host presents nothing: idle
periods follow (R64, R201). -/
def nextEvent (s : State) : PortEvent × State :=
  match s.inputs with
  | [] => (.idle, s)
  | x :: rest => (eventOf x, { s with inputs := rest })

/-- The input of a period in which the host presents the command word `w`. -/
def presentWord (w : CmdWord) : HostInput := .period false true w

/-- The inputs of consecutive periods that issue the words `ws` (R64). -/
def issue (ws : List CmdWord) : List HostInput := ws.map presentWord

/-- The output ports during one period (R51). -/
structure PortsOut where
  cmdReady : Bool
  rspValid : Bool
  rspWord  : RspWord
  phase    : BitVec 3
  count    : BitVec 8
  r1       : BitVec 19
  r2       : BitVec 22
  r3       : BitVec 23
  deriving DecidableEq, Repr

/-- What the engine drives while its state is `s` and `rst` is as given: `cmd_ready = 1` whenever `rst = 0`;
while `rst = 1` no response is presented, so one that was due is lost (R64, R190, R192); the status and register
outputs always show the committed state (R36, R198). -/
def portsOut (s : State) (rst : Bool) : PortsOut where
  cmdReady := !rst
  rspValid := s.rspValid && !rst
  rspWord := s.rspWord
  phase := phaseCode s.phase
  count := s.count
  r1 := s.r1
  r2 := s.r2
  r3 := s.r3

end Sys2Proof.Machine
end

