-- ==== Sys2Proof/Machine/Step.lean ====
section
/-! DEFINITION. One step: one clock period at the ports (30_encoding.md R64), or one driver call of `RUNALL`
(42_init_sequencer.md R109). -/

namespace Sys2Proof.Machine

open Sys2Proof

/-- The engine takes the next host input. -/
def step (s : State) : Host.Outcome State Fault Refusal :=
  match nextEvent s with
  | (.idle, s') => .next (idlePeriod s')
  | (.reset, s') => .next (hardwareReset s')
  | (.command i, s') => exec i s'

/-- `s` with the `nbits`-bit word `w` presented at the command port in the very next period. The engine fetches
nothing (10_state.md R29): this stands for the host issuing the word (assumption 5). The port carries 24 bits
(30_encoding.md R51, R52), so a string of any other length is not presented. -/
def State.withFetchWord (s : State) (nbits w : Nat) : State :=
  match commandWord nbits w with
  | .ok cw => { s with inputs := presentWord cw :: s.inputs }
  | .error _ => s

end Sys2Proof.Machine
end

