-- ==== Sys2Proof/Safety.lean ====
section
/-! DEFINITION. What counts as a safe run, and the terms the statements are written in: the state invariant of
10_state.md R35, and the spec's next-state equations written bit by bit, without the operations of Machine/. -/

namespace Sys2Proof.Machine

open Sys2Proof

/-- The state invariants of 10_state.md R35 (that `PHASE` is in 0..5 is the type's). A safe run is one all of
whose states meet them. -/
structure EngineInv (s : State) : Prop where
  /-- In `NotStarted`, `Zeroed` and `Ready` the counter is 0. -/
  count_zero : s.phase = .notStarted ∨ s.phase = .zeroed ∨ s.phase = .ready → s.count = 0#8
  /-- In `KeyMixing`, `1 <= COUNT < KLEN`. -/
  count_key : s.phase = .keyMixing → 1 ≤ s.count.toNat ∧ s.count.toNat < s.klen.toNat
  /-- In `FrameMixing`, `COUNT < FLEN`. -/
  count_frame : s.phase = .frameMixing → s.count.toNat < s.flen.toNat
  /-- In `DiscardClocking`, `COUNT < NDISC`. -/
  count_discard : s.phase = .discardClocking → s.count.toNat < Config.std.ndisc
  /-- Once an episode has begun both declared lengths are positive. -/
  lengths_pos : s.phase ≠ .notStarted → 1 ≤ s.klen.toNat ∧ 1 ≤ s.flen.toNat
  /-- In `Zeroed` every register bit is 0. -/
  zeroed_regs : s.phase = .zeroed → s.r1 = 0#19 ∧ s.r2 = 0#22 ∧ s.r3 = 0#23

/-- `s` with the response `w` presented and nothing else changed. -/
def answered (s : State) (w : RspWord) : State := { s with rspValid := true, rspWord := w }

/-- One advancing R1 with external bit `e`: the next-state equations of 40_register_primitives.md R75. -/
def AdvancedR1 (r r' : BitVec 19) (e : Bool) : Prop :=
  r'.getLsbD 0 = (r.getLsbD 13 ^^ r.getLsbD 16 ^^ r.getLsbD 17 ^^ r.getLsbD 18 ^^ e) ∧
    ∀ i, 1 ≤ i → i ≤ 18 → r'.getLsbD i = r.getLsbD (i - 1)

/-- One advancing R2 with external bit `e` (R75). -/
def AdvancedR2 (r r' : BitVec 22) (e : Bool) : Prop :=
  r'.getLsbD 0 = (r.getLsbD 20 ^^ r.getLsbD 21 ^^ e) ∧
    ∀ i, 1 ≤ i → i ≤ 21 → r'.getLsbD i = r.getLsbD (i - 1)

/-- One advancing R3 with external bit `e` (R75). -/
def AdvancedR3 (r r' : BitVec 23) (e : Bool) : Prop :=
  r'.getLsbD 0 = (r.getLsbD 7 ^^ r.getLsbD 20 ^^ r.getLsbD 21 ^^ r.getLsbD 22 ^^ e) ∧
    ∀ i, 1 ≤ i → i ≤ 22 → r'.getLsbD i = r.getLsbD (i - 1)

/-- All three registers of `s` have advanced with the external bit `b`, giving those of `t`. -/
def MixedBy (b : Bool) (s t : State) : Prop :=
  AdvancedR1 s.r1 t.r1 b ∧ AdvancedR2 s.r2 t.r2 b ∧ AdvancedR3 s.r3 t.r3 b

/-- The majority of the three clock taps `R1[8]`, `R2[10]`, `R3[10]` (41_clock_controller.md R90, R91). -/
def majorityOf (s : State) : Bool :=
  (s.r1.getLsbD 8 && s.r2.getLsbD 10) || (s.r1.getLsbD 8 && s.r3.getLsbD 10) ||
    (s.r2.getLsbD 10 && s.r3.getLsbD 10)

/-- The registers of `t` are those of `s` after one majority cycle: a register whose clock tap equals the majority
has advanced without external input, any other is as it was (R91, R94). -/
def MajorityClocked (s t : State) : Prop :=
  (if s.r1.getLsbD 8 = majorityOf s then AdvancedR1 s.r1 t.r1 false else t.r1 = s.r1) ∧
  (if s.r2.getLsbD 10 = majorityOf s then AdvancedR2 s.r2 t.r2 false else t.r2 = s.r2) ∧
  (if s.r3.getLsbD 10 = majorityOf s then AdvancedR3 s.r3 t.r3 false else t.r3 = s.r3)

/-- The response of a successful majority cycle with result bit `z`, field by field (30_encoding.md R60). -/
def CycleResponse (s : State) (z : Bool) (w : RspWord) : Prop :=
  w.extractLsb' 5 3 = 0#3 ∧ w.getLsbD 4 = z ∧ w.getLsbD 3 = majorityOf s ∧
    w.getLsbD 2 = (s.r3.getLsbD 10 == majorityOf s) ∧ w.getLsbD 1 = (s.r2.getLsbD 10 == majorityOf s) ∧
    w.getLsbD 0 = (s.r1.getLsbD 8 == majorityOf s)

/-- The response of a command that reads bit `b` (R60, R61). -/
def bitResponse (b : Bool) : RspWord := if b then 0x10#8 else 0x00#8

/-- Everything in `t` but the registers is as in `s`. -/
def OnlyRegistersDiffer (s t : State) : Prop := t = { s with r1 := t.r1, r2 := t.r2, r3 := t.r3 }

/-- The two states hold the same engine state: registers, phase, counter and declared lengths (10_state.md). -/
def SameEngine (s t : State) : Prop :=
  s.r1 = t.r1 ∧ s.r2 = t.r2 ∧ s.r3 = t.r3 ∧ s.phase = t.phase ∧ s.count = t.count ∧ s.klen = t.klen ∧
    s.flen = t.flen

/-- The registers of `u` are the bitwise XOR of those of `s` and `t`. -/
def RegistersXor (u s t : State) : Prop :=
  u.r1 = s.r1 ^^^ t.r1 ∧ u.r2 = s.r2 ^^^ t.r2 ∧ u.r3 = s.r3 ^^^ t.r3

/-- The commands of a list executed one after another, each on the state the one before left. -/
def runSeq : List Instr → State → Host.Outcome State Fault Refusal
  | [], s => .next s
  | i :: rest, s =>
    match exec i s with
    | .next t => runSeq rest t
    | .fault f => .fault f
    | .refused r => .refused r

/-- `n` steps of the machine, stopping at the first fault or refusal. -/
def runSteps : Nat → State → Host.Outcome State Fault Refusal
  | 0, s => .next s
  | n + 1, s =>
    match step s with
    | .next t => runSteps n t
    | .fault f => .fault f
    | .refused r => .refused r

/-- The first `n` keystream bits from `s` on: the `bit` fields of the responses to `n` `NEXTBIT`
(43_keystream_generator.md R134). -/
def keystream : Nat → State → List Bool
  | 0, _ => []
  | n + 1, s =>
    match exec .nextbit s with
    | .next t => rspBit t.rspWord :: keystream n t
    | .fault _ => []
    | .refused _ => []

/-- The home phases of 42_init_sequencer.md R102; the other commands have no phase check. -/
def homePhases : Instr → List Phase
  | .zero _ _ => []
  | .mixkey _ => [.zeroed, .keyMixing]
  | .mixframe _ => [.frameMixing]
  | .discard => [.discardClocking]
  | .nextbit => [.ready]
  | .read _ _ => []
  | .rdclk _ => []
  | .rdout _ => []
  | .runall _ _ => []

/-- The error codes a command may report besides 0, by the "raised by" column of 60_exceptions.md R170. -/
def raisable : Instr → List (BitVec 3)
  | .zero _ _ => [3#3]
  | .mixkey _ => [1#3, 2#3]
  | .mixframe _ => [1#3, 2#3]
  | .discard => [1#3, 2#3]
  | .nextbit => [1#3]
  | .read _ _ => [4#3, 5#3]
  | .rdclk _ => [5#3]
  | .rdout _ => [5#3]
  | .runall _ _ => [3#3]

/-- The opcode of an engine command (30_encoding.md R54); `RUNALL` has none. -/
def opcodeOf : Instr → Option (BitVec 3)
  | .zero _ _ => some 0b000#3
  | .mixkey _ => some 0b001#3
  | .mixframe _ => some 0b010#3
  | .discard => some 0b011#3
  | .nextbit => some 0b100#3
  | .read _ _ => some 0b101#3
  | .rdclk _ => some 0b110#3
  | .rdout _ => some 0b111#3
  | .runall _ _ => none

/-- The bits of a command word that its opcode uses, by the formats of 30_encoding.md R53. -/
def usedBits (w : CmdWord) : CmdWord :=
  if w.extractLsb' 21 3 = 0b000#3 then 0xE0FFFF#24
  else if w.extractLsb' 21 3 = 0b001#3 ∨ w.extractLsb' 21 3 = 0b010#3 then 0xE00001#24
  else if w.extractLsb' 21 3 = 0b011#3 ∨ w.extractLsb' 21 3 = 0b100#3 then 0xE00000#24
  else if w.extractLsb' 21 3 = 0b101#3 then 0xE0007F#24
  else 0xE00060#24

end Sys2Proof.Machine
end

