-- ==== Sys2Proof/Certificates/Slice0/Obligations.lean ====
section
/-! DEFINITION. The statements for the provers. Where a statement uses the tap indices of 00_scope.md R11, they are
those of `Config.std` (assumption 3); where one speaks of `inputs`, that is how the model holds what the host does
(assumption 5), `driverReport` what its driver last reported (assumption 6), and `draws` the model's count of resets
(assumption 1): a clause that they stay as they are is the frame over the model's own fields. No statement rests on the value of a free value (assumptions 1, 2). -/

open Sys2Proof Sys2Proof.Machine

/-! ### Steps, ports and reset -/

/-- 30_encoding.md section 2: a step runs the command the host presents, decoded, with that input consumed; a
driver call runs `RUNALL`; `withFetchWord` presents its word (assumption 5). -/
def Obligations.StepRunsThePresentedCommand : Prop :=
  (∀ (s : State) (w : CmdWord) (rest : List HostInput), s.inputs = .period false true w :: rest →
    step s = exec (decode w) { s with inputs := rest }) ∧
  (∀ (s : State) (key frame : List Bool) (rest : List HostInput), s.inputs = .runAll key frame :: rest →
    step s = exec (.runall key frame) { s with inputs := rest }) ∧
  (∀ (s : State) (w : CmdWord), step (s.withFetchWord 24 w.toNat) = exec (decode w) s)

/-- 30_encoding.md R64: one period of the handshake: a command is taken, is not presented, or is not taken because
`rst` is 1. What `rsp_word` carries while `rsp_valid` is 0 is left open here (`IdlePeriodsKeepTheResponseWord`). -/
def Obligations.HandshakeOfOnePeriod : Prop :=
  (∀ (s : State) (w : CmdWord) (rest : List HostInput), s.inputs = .period false true w :: rest →
    ∃ t, step s = .next t ∧ exec (decode w) { s with inputs := rest } = .next t ∧ t.rspValid = true ∧
      (portsOut t false).rspValid = true ∧ (portsOut t false).rspWord = t.rspWord ∧ t.inputs = rest) ∧
  (∀ (s : State) (w : CmdWord) (rest : List HostInput), s.inputs = .period false false w :: rest →
    ∃ t, step s = .next t ∧ SameEngine s t ∧ t.rspValid = false ∧ t.inputs = rest ∧
      t.driverReport = s.driverReport ∧ t.draws = s.draws) ∧
  (∀ s : State, s.inputs = [] →
    ∃ t, step s = .next t ∧ SameEngine s t ∧ t.rspValid = false ∧ t.inputs = [] ∧
      t.driverReport = s.driverReport ∧ t.draws = s.draws) ∧
  (∀ (s : State) (w : CmdWord) (rest : List HostInput), s.inputs = .period true true w :: rest →
    step s = step { s with inputs := .period true false w :: rest } ∧ ∃ t, step s = .next t ∧ t.rspValid = false) ∧
  (∀ s : State, (portsOut s false).cmdReady = true)

/-- 70_reset_and_hazards.md R190 and R192: a period with `rst = 1`, whatever command is presented in it. The rule
leaves the register bits unspecified, and so does the statement. -/
def Obligations.HardwareResetPeriod : Prop :=
  (∀ (s : State) (cmdValid : Bool) (w : CmdWord) (rest : List HostInput),
    s.inputs = .period true cmdValid w :: rest →
    ∃ t, step s = .next t ∧ t.phase = .notStarted ∧ t.count = 0#8 ∧ t.klen = 0#8 ∧ t.flen = 0#8 ∧
      t.rspValid = false ∧ t.inputs = rest) ∧
  (∀ s : State, (portsOut s true).cmdReady = false ∧ (portsOut s true).rspValid = false)

/-- 10_state.md R34: the state after reset; the commands that would compute from the unspecified register bits
are refused with `InvalidPhaseTransition`, whatever the 64 bits are, and no command other than the three observation
commands answers anything that depends on them. -/
def Obligations.StateAfterReset : Prop :=
  State.reset.phase = .notStarted ∧ phaseCode State.reset.phase = 0#3 ∧ State.reset.count = 0#8 ∧
  State.reset.klen = 0#8 ∧ State.reset.flen = 0#8 ∧
  (∀ (r1 : BitVec 19) (r2 : BitVec 22) (r3 : BitVec 23) (b : Bool) (i : Instr),
    i = .mixkey b ∨ i = .mixframe b ∨ i = .discard ∨ i = .nextbit →
    exec i { State.reset with r1 := r1, r2 := r2, r3 := r3 } =
      .next (answered { State.reset with r1 := r1, r2 := r2, r3 := r3 } 0x20#8)) ∧
  ∀ (r1 r1' : BitVec 19) (r2 r2' : BitVec 22) (r3 r3' : BitVec 23) (i : Instr), i.isCore = true →
    (∀ sel idx, i ≠ .read sel idx ∧ i ≠ .rdclk sel ∧ i ≠ .rdout sel) →
    ∃ t t', exec i { State.reset with r1 := r1, r2 := r2, r3 := r3 } = .next t ∧
      exec i { State.reset with r1 := r1', r2 := r2', r3 := r3' } = .next t' ∧ t.rspWord = t'.rspWord

/-- The model's choice (assumptions 1 and 2): after the reset that `draws` counts as `n` the register bits and `rsp_word`
are the `n`-th free values, whatever `n` is, at `State.reset` and after a reset period. -/
def Obligations.ResetDrawsFreeValues : Prop :=
  (State.reset.r1 = Config.freeR1 State.reset.draws ∧ State.reset.r2 = Config.freeR2 State.reset.draws ∧
    State.reset.r3 = Config.freeR3 State.reset.draws ∧ State.reset.rspWord = Config.freeRsp State.reset.draws) ∧
  ∀ (s : State) (cmdValid : Bool) (w : CmdWord) (rest : List HostInput),
    s.inputs = .period true cmdValid w :: rest →
    ∃ t, step s = .next t ∧ t.draws = s.draws + 1 ∧ t.r1 = Config.freeR1 t.draws ∧ t.r2 = Config.freeR2 t.draws ∧
      t.r3 = Config.freeR3 t.draws ∧ t.rspWord = Config.freeRsp t.draws

/-- 10_state.md section 6: the state invariants hold after reset. -/
def Obligations.ResetMeetsInvariant : Prop := EngineInv State.reset

/-- 10_state.md section 6: from every state that meets the invariants, a step gives a state that meets them. -/
def Obligations.StepKeepsInvariant : Prop := ∀ s t : State, EngineInv s → step s = .next t → EngineInv t

/-- 10_state.md R36: the status and register outputs, bit by bit, whatever `rst` is; a period in which no command
is taken and no reset happens leaves them as they are. The bits of the model's vectors are those of the stages by
assumption 4. -/
def Obligations.OutputPortsShowTheState : Prop :=
  (∀ (s : State) (rst : Bool),
    (portsOut s rst).phase = phaseCode s.phase ∧ (portsOut s rst).count = s.count ∧
    (∀ i, i < 19 → (portsOut s rst).r1.getLsbD i = regBit .r1 i s) ∧
    (∀ i, i < 22 → (portsOut s rst).r2.getLsbD i = regBit .r2 i s) ∧
    (∀ i, i < 23 → (portsOut s rst).r3.getLsbD i = regBit .r3 i s)) ∧
  (∀ (s : State) (w : CmdWord) (rest : List HostInput), s.inputs = .period false false w :: rest →
    ∃ t, step s = .next t ∧ ∀ rst : Bool, (portsOut t rst).phase = (portsOut s rst).phase ∧
      (portsOut t rst).count = (portsOut s rst).count ∧ (portsOut t rst).r1 = (portsOut s rst).r1 ∧
      (portsOut t rst).r2 = (portsOut s rst).r2 ∧ (portsOut t rst).r3 = (portsOut s rst).r3) ∧
  (∀ s : State, s.inputs = [] →
    ∃ t, step s = .next t ∧ ∀ rst : Bool, (portsOut t rst).phase = (portsOut s rst).phase ∧
      (portsOut t rst).count = (portsOut s rst).count ∧ (portsOut t rst).r1 = (portsOut s rst).r1 ∧
      (portsOut t rst).r2 = (portsOut s rst).r2 ∧ (portsOut t rst).r3 = (portsOut s rst).r3)

/-- 70_reset_and_hazards.md R201: any number of periods without a command, with the host silent or with
`cmd_valid = 0` and any command words, leaves the state of the engine as it is. -/
def Obligations.IdleEngineHoldsItsState : Prop :=
  (∀ (n : Nat) (s : State), s.inputs = [] →
    ∃ t, runSteps (n + 1) s = .next t ∧ SameEngine s t ∧ t.rspValid = false ∧ t.inputs = [] ∧
      t.driverReport = s.driverReport ∧ t.draws = s.draws) ∧
  (∀ (ws : List CmdWord) (s : State) (rest : List HostInput), ws ≠ [] →
    s.inputs = ws.map (.period false false) ++ rest →
    ∃ t, runSteps ws.length s = .next t ∧ SameEngine s t ∧ t.rspValid = false ∧ t.inputs = rest ∧
      t.driverReport = s.driverReport ∧ t.draws = s.draws)

/-! ### Encoding -/

/-- 30_encoding.md sections 3 and 4: every engine command, with every operand, is one word that decodes to it. -/
def Obligations.EngineCommandsDecodeAsEncoded : Prop :=
  ∀ i : Instr, i.isCore = true → i.wf = true ∧ ∃ w, encode i = [w] ∧ decode w = i

/-- 30_encoding.md section 6: the words of a `RUNALL` decode to the commands of its expansion, in order. -/
def Obligations.RunallWordsDecodeToItsCommands : Prop :=
  ∀ key frame : List Bool, key ≠ [] → frame ≠ [] → (Instr.runall key frame).wf = true →
    (encode (.runall key frame)).map decode =
      .zero (BitVec.ofNat 8 key.length) (BitVec.ofNat 8 frame.length) ::
        (key.map .mixkey ++ frame.map .mixframe ++ List.replicate 100 .discard)

/-- 30_encoding.md R57: words that differ only in unused bits are the same command, and the encoder writes the
unused bits as 0. -/
def Obligations.UnusedBitsAreIgnored : Prop :=
  (∀ w v : CmdWord, w &&& usedBits w = v &&& usedBits v → decode w = decode v) ∧
  (∀ w : CmdWord, encode (decode w) = [w &&& usedBits w])

/-- 30_encoding.md R54: `cw[23:21]` alone selects the command, every opcode is assigned, and the words with all
operands 0. -/
def Obligations.OpcodeSelectsTheCommand : Prop :=
  (∀ w : CmdWord, opcodeOf (decode w) = some (w.extractLsb' 21 3)) ∧
  encode (.zero 0#8 0#8) = [0x000000#24] ∧ encode (.mixkey false) = [0x200000#24] ∧
  encode (.mixframe false) = [0x400000#24] ∧ encode .discard = [0x600000#24] ∧
  encode .nextbit = [0x800000#24] ∧ encode (.read 0#2 0#5) = [0xA00000#24] ∧
  encode (.rdclk 0#2) = [0xC00000#24] ∧ encode (.rdout 0#2) = [0xE00000#24]

/-- 95_test_vectors.md V36: words written out from the spec's encodings decode to the commands they stand for. -/
def Obligations.SpecWordsDecode : Prop :=
  decode 0x004016#24 = .zero 64#8 22#8 ∧ decode 0x1F4016#24 = .zero 64#8 22#8 ∧
  decode 0x200001#24 = .mixkey true ∧ decode 0x3FFFFE#24 = .mixkey false ∧
  decode 0x400001#24 = .mixframe true ∧ decode 0x7FFFFF#24 = .discard ∧ decode 0x9ABCDE#24 = .nextbit ∧
  decode 0xA00056#24 = .read 2#2 22#5 ∧ decode 0xC0003F#24 = .rdclk 1#2 ∧ decode 0xFFFFFF#24 = .rdout 3#2

/-- 30_encoding.md R55: the register a select names. -/
def Obligations.RegisterSelectCodes : Prop :=
  selReg 0#2 = some .r1 ∧ selReg 1#2 = some .r2 ∧ selReg 2#2 = some .r3 ∧ selReg 3#2 = none

/-- 30_encoding.md R58: the reserved select fails with `IllegalCommand`, an empty length with `EmptyInput`, an
index outside the register with `IndexOutOfRange`, all with the state unchanged; every word has an outcome. -/
def Obligations.EveryCommandWordHasAnOutcome : Prop :=
  (∀ (idx : BitVec 5) (s : State), exec (.read 3#2 idx) s = .next (answered s 0xA0#8)) ∧
  (∀ s : State, exec (.rdclk 3#2) s = .next (answered s 0xA0#8)) ∧
  (∀ s : State, exec (.rdout 3#2) s = .next (answered s 0xA0#8)) ∧
  (∀ (l : Len) (s : State), exec (.zero 0#8 l) s = .next (answered s 0x60#8) ∧
    exec (.zero l 0#8) s = .next (answered s 0x60#8)) ∧
  (∀ (sel : BitVec 2) (k : RegName) (idx : BitVec 5) (s : State), selReg sel = some k → k.len ≤ idx.toNat →
    exec (.read sel idx) s = .next (answered s 0x80#8)) ∧
  (∀ w : CmdWord, (decode w).isCore = true ∧ ∀ s : State, ∃ t, exec (decode w) s = .next t)

/-! ### Instance parameters -/

/-- 00_scope.md R10 and R11: the parameters of the instance and the constraints they meet. -/
def Obligations.InstanceParameters : Prop :=
  RegName.r1.len = 19 ∧ RegName.r2.len = 22 ∧ RegName.r3.len = 23 ∧
  Config.std.ndisc = 100 ∧ Config.canonicalKeyLen = 64 ∧ Config.canonicalFrameLen = 22 ∧
  Config.std.r1 = ⟨[13, 16, 17, 18], 8, 18⟩ ∧ Config.std.r2 = ⟨[20, 21], 10, 21⟩ ∧
  Config.std.r3 = ⟨[7, 20, 21, 22], 10, 22⟩ ∧ Config.std.valid = true ∧
  (∀ k : RegName, (Config.std.wiring k).out = k.len - 1)

/-! ### Register primitives and the clock controller -/

/-- 40_register_primitives.md R70: `reg_zero(k)` clears every bit of `Rk` and touches nothing else. -/
def Obligations.RegZeroClearsOneRegister : Prop :=
  ∀ (k : RegName) (s : State),
    (∀ i, i < k.len → regBit k i (regZero k s) = false) ∧
    (∀ j, j ≠ k → ∀ i, regBit j i (regZero k s) = regBit j i s) ∧ OnlyRegistersDiffer s (regZero k s)

/-- 40_register_primitives.md R71: `fb` is the parity of the set feedback taps, for any wiring, XORed with the
external bit where there is one; and the three formulas with the values of R11. -/
def Obligations.FeedbackIsTheParityOfTheTaps : Prop :=
  (∀ (c : Config) (k : RegName) (s : State),
    fb c k none s = decide (((c.wiring k).taps.filter (fun t => regBit k t s)).length % 2 = 1)) ∧
  (∀ (c : Config) (k : RegName) (e : Bool) (s : State), fb c k (some e) s = (fb c k none s ^^ e)) ∧
  (∀ (e : Bool) (s : State),
    fb Config.std .r1 (some e) s =
      (s.r1.getLsbD 13 ^^ s.r1.getLsbD 16 ^^ s.r1.getLsbD 17 ^^ s.r1.getLsbD 18 ^^ e) ∧
    fb Config.std .r2 (some e) s = (s.r2.getLsbD 20 ^^ s.r2.getLsbD 21 ^^ e) ∧
    fb Config.std .r3 (some e) s =
      (s.r3.getLsbD 7 ^^ s.r3.getLsbD 20 ^^ s.r3.getLsbD 21 ^^ s.r3.getLsbD 22 ^^ e))

/-- 40_register_primitives.md R72: `reg_shift` moves every stage one place toward the output end, inserts the new
bit at index 0, and returns the output bit before the shift, for any wiring. -/
def Obligations.RegShiftMovesEveryStage : Prop :=
  ∀ (c : Config) (k : RegName) (b : Bool) (s : State),
    (regShift c k b s).1 = regBit k (c.wiring k).out s ∧
    regBit k 0 (regShift c k b s).2 = b ∧
    (∀ i, 1 ≤ i → i < k.len → regBit k i (regShift c k b s).2 = regBit k (i - 1) s) ∧
    (∀ j, j ≠ k → ∀ i, regBit j i (regShift c k b s).2 = regBit j i s) ∧
    OnlyRegistersDiffer s (regShift c k b s).2

/-- 40_register_primitives.md R73: `reg_clock` shifts in the feedback of the contents before the shift, and no other
register is read or written. -/
def Obligations.RegClockShiftsInTheFeedback : Prop :=
  ∀ (c : Config) (k : RegName) (ext : Option Bool) (s : State),
    (regClock c k ext s).1 = regBit k (c.wiring k).out s ∧
    regBit k 0 (regClock c k ext s).2 = fb c k ext s ∧
    (∀ i, 1 ≤ i → i < k.len → regBit k i (regClock c k ext s).2 = regBit k (i - 1) s) ∧
    (∀ j, j ≠ k → ∀ i, regBit j i (regClock c k ext s).2 = regBit j i s) ∧
    OnlyRegistersDiffer s (regClock c k ext s).2 ∧
    (∀ s' : State, (∀ i, regBit k i s' = regBit k i s) →
      (regClock c k ext s').1 = (regClock c k ext s).1 ∧
      ∀ i, regBit k i (regClock c k ext s').2 = regBit k i (regClock c k ext s).2)

/-- 40_register_primitives.md R74: the accessor primitives. -/
def Obligations.AccessorPrimitives : Prop :=
  ∀ (k : RegName) (s : State),
    (∀ i, k.len ≤ i → bitAt k i s = .error .indexOutOfRange) ∧
    (∀ i, i < k.len → bitAt k i s = .ok (regBit k i s)) ∧
    (∀ c : Config, clockBit c k s = regBit k (c.wiring k).clk s) ∧
    (∀ c : Config, outputBit c k s = regBit k (c.wiring k).out s) ∧
    (Config.std.wiring k).clk < k.len ∧ (Config.std.wiring k).out < k.len

/-- 40_register_primitives.md section 3: clocking all three registers is linear over GF(2), for any wiring. -/
def Obligations.ClockingIsLinear : Prop :=
  ∀ (c : Config) (a b : Bool) (s t u : State), RegistersXor u s t →
    RegistersXor (mixAll c (a ^^ b) u) (mixAll c a s) (mixAll c b t)

/-- 42_init_sequencer.md section 4: over a whole sequence of mixed bits the registers are a GF(2)-linear function
of the start contents and the bits supplied, for any wiring. -/
def Obligations.MixingASequenceIsLinear : Prop :=
  ∀ (c : Config) (xs ys : List Bool) (s t u : State), xs.length = ys.length → RegistersXor u s t →
    RegistersXor ((List.zipWith xor xs ys).foldl (fun v b => mixAll c b v) u)
      (xs.foldl (fun v b => mixAll c b v) s) (ys.foldl (fun v b => mixAll c b v) t)

/-- 41_clock_controller.md R90: `maj` is 1 exactly where the integer sum is at least 2, the sum-of-products form,
and the value that appears at least twice. -/
def Obligations.MajorityOfThreeBits : Prop :=
  ∀ a b d : Bool,
    maj a b d = decide (2 ≤ a.toNat + b.toNat + d.toNat) ∧
    maj a b d = ((a && b) || (a && d) || (b && d)) ∧
    ((a = b ∧ maj a b d = a) ∨ (a = d ∧ maj a b d = a) ∨ (b = d ∧ maj a b d = b))

/-- 41_clock_controller.md R91, for any wiring: the clock bits are those before any register moves; each register
whose clock bit equals the majority advances without external input, any other is untouched; nothing else of
the state changes; the majority and the advanced set are returned; the clock taps with the values of R11. -/
def Obligations.DecideAndClockAdvancesTheMajority : Prop :=
  ∀ (c : Config) (s : State),
    (decideAndClock c s).majority = maj (clockBit c .r1 s) (clockBit c .r2 s) (clockBit c .r3 s) ∧
    (∀ k : RegName,
      if clockBit c k s = (decideAndClock c s).majority then
        regBit k 0 (decideAndClock c s).after = fb c k none s ∧
        ∀ i, 1 ≤ i → i < k.len → regBit k i (decideAndClock c s).after = regBit k (i - 1) s
      else ∀ i, regBit k i (decideAndClock c s).after = regBit k i s) ∧
    OnlyRegistersDiffer s (decideAndClock c s).after ∧
    (decideAndClock c s).clocked.getLsbD 0 = (clockBit c .r1 s == (decideAndClock c s).majority) ∧
    (decideAndClock c s).clocked.getLsbD 1 = (clockBit c .r2 s == (decideAndClock c s).majority) ∧
    (decideAndClock c s).clocked.getLsbD 2 = (clockBit c .r3 s == (decideAndClock c s).majority) ∧
    clockBit Config.std .r1 s = s.r1.getLsbD 8 ∧ clockBit Config.std .r2 s = s.r2.getLsbD 10 ∧
    clockBit Config.std .r3 s = s.r3.getLsbD 10

/-- 41_clock_controller.md, the table of every case: two or three registers advance, never one and never none. -/
def Obligations.TwoOrThreeRegistersAdvance : Prop :=
  ∀ (c : Config) (s : State),
    (decideAndClock c s).clocked = 0b111#3 ∨ (decideAndClock c s).clocked = 0b011#3 ∨
    (decideAndClock c s).clocked = 0b101#3 ∨ (decideAndClock c s).clocked = 0b110#3

/-! ### The commands -/

/-- 42_init_sequencer.md R101: `ZERO`. -/
def Obligations.ZeroStartsAnEpisode : Prop :=
  (∀ (klen flen : Len) (s : State), klen ≠ 0#8 → flen ≠ 0#8 →
    exec (.zero klen flen) s = .next
      { s with r1 := 0#19, r2 := 0#22, r3 := 0#23, klen := klen, flen := flen, phase := .zeroed,
               count := 0#8, rspValid := true, rspWord := 0x00#8 }) ∧
  (∀ (klen flen : Len) (s : State), klen = 0#8 ∨ flen = 0#8 →
    exec (.zero klen flen) s = .next (answered s 0x60#8)) ∧
  (∀ w : CmdWord, w.extractLsb' 21 3 = 0b000#3 → decode w = .zero (w.extractLsb' 8 8) (w.extractLsb' 0 8))

/-- 42_init_sequencer.md R103: `MIXKEY`. The invariant rules out the unreachable counter value 255 with `KLEN` 0,
where the model's integer comparison would matter (assumption 8). -/
def Obligations.MixkeyMixesOneKeyBit : Prop :=
  (∀ (b : Bool) (s : State), EngineInv s → s.phase = .zeroed ∨ s.phase = .keyMixing →
    ∃ t, exec (.mixkey b) s = .next t ∧ MixedBy b s t ∧
      (s.count.toNat + 1 = s.klen.toNat → t.phase = .frameMixing ∧ t.count = 0#8) ∧
      (s.count.toNat + 1 ≠ s.klen.toNat → t.phase = .keyMixing ∧ t.count = s.count + 1#8) ∧
      t.klen = s.klen ∧ t.flen = s.flen ∧ t.rspValid = true ∧ t.rspWord = 0x07#8 ∧
      t.inputs = s.inputs ∧ t.draws = s.draws ∧ t.driverReport = s.driverReport) ∧
  (∀ (b : Bool) (s : State), s.phase = .notStarted → exec (.mixkey b) s = .next (answered s 0x20#8)) ∧
  (∀ (b : Bool) (s : State), s.phase = .frameMixing ∨ s.phase = .discardClocking ∨ s.phase = .ready →
    exec (.mixkey b) s = .next (answered s 0x40#8)) ∧
  (∀ w : CmdWord, w.extractLsb' 21 3 = 0b001#3 → decode w = .mixkey (w.getLsbD 0))

/-- 42_init_sequencer.md R105: `MIXFRAME`. The invariant as in `MixkeyMixesOneKeyBit` (assumption 8). -/
def Obligations.MixframeMixesOneFrameBit : Prop :=
  (∀ (b : Bool) (s : State), EngineInv s → s.phase = .frameMixing →
    ∃ t, exec (.mixframe b) s = .next t ∧ MixedBy b s t ∧
      (s.count.toNat + 1 = s.flen.toNat → t.phase = .discardClocking ∧ t.count = 0#8) ∧
      (s.count.toNat + 1 ≠ s.flen.toNat → t.phase = .frameMixing ∧ t.count = s.count + 1#8) ∧
      t.klen = s.klen ∧ t.flen = s.flen ∧ t.rspValid = true ∧ t.rspWord = 0x07#8 ∧
      t.inputs = s.inputs ∧ t.draws = s.draws ∧ t.driverReport = s.driverReport) ∧
  (∀ (b : Bool) (s : State), s.phase = .notStarted ∨ s.phase = .zeroed ∨ s.phase = .keyMixing →
    exec (.mixframe b) s = .next (answered s 0x20#8)) ∧
  (∀ (b : Bool) (s : State), s.phase = .discardClocking ∨ s.phase = .ready →
    exec (.mixframe b) s = .next (answered s 0x40#8)) ∧
  (∀ w : CmdWord, w.extractLsb' 21 3 = 0b010#3 → decode w = .mixframe (w.getLsbD 0))

/-- 42_init_sequencer.md R107: `DISCARD`. -/
def Obligations.DiscardClocksAndCounts : Prop :=
  (∀ s : State, s.phase = .discardClocking →
    ∃ t, exec .discard s = .next t ∧ MajorityClocked s t ∧ CycleResponse s false t.rspWord ∧
      (s.count.toNat + 1 = 100 → t.phase = .ready ∧ t.count = 0#8) ∧
      (s.count.toNat + 1 ≠ 100 → t.phase = .discardClocking ∧ t.count = s.count + 1#8) ∧
      t.klen = s.klen ∧ t.flen = s.flen ∧ t.rspValid = true ∧ t.inputs = s.inputs ∧ t.draws = s.draws ∧
      t.driverReport = s.driverReport) ∧
  (∀ s : State, s.phase = .notStarted ∨ s.phase = .zeroed ∨ s.phase = .keyMixing ∨ s.phase = .frameMixing →
    exec .discard s = .next (answered s 0x20#8)) ∧
  (∀ s : State, s.phase = .ready → exec .discard s = .next (answered s 0x40#8)) ∧
  (∀ w : CmdWord, w.extractLsb' 21 3 = 0b011#3 → decode w = .discard)

/-- 43_keystream_generator.md R130: `NEXTBIT`; the keystream bit is read from the registers AFTER the cycle. -/
def Obligations.NextbitMakesOneKeystreamBit : Prop :=
  (∀ s : State, s.phase = .ready →
    ∃ t, exec .nextbit s = .next t ∧ MajorityClocked s t ∧
      CycleResponse s (t.r1.getLsbD 18 ^^ t.r2.getLsbD 21 ^^ t.r3.getLsbD 22) t.rspWord ∧
      t.phase = .ready ∧ t.count = s.count ∧ t.klen = s.klen ∧ t.flen = s.flen ∧ t.rspValid = true ∧
      t.inputs = s.inputs ∧ t.draws = s.draws ∧ t.driverReport = s.driverReport) ∧
  (∀ s : State, s.phase ≠ .ready → exec .nextbit s = .next (answered s 0x20#8)) ∧
  (∀ w : CmdWord, w.extractLsb' 21 3 = 0b100#3 → decode w = .nextbit)

/-- 44_observation_commands.md R140: `READ`. -/
def Obligations.ReadAnswersTheSelectedBit : Prop :=
  ∀ (idx : BitVec 5) (s : State),
    (idx.toNat < 19 → exec (.read 0#2 idx) s = .next (answered s (bitResponse (s.r1.getLsbD idx.toNat)))) ∧
    (19 ≤ idx.toNat → exec (.read 0#2 idx) s = .next (answered s 0x80#8)) ∧
    (idx.toNat < 22 → exec (.read 1#2 idx) s = .next (answered s (bitResponse (s.r2.getLsbD idx.toNat)))) ∧
    (22 ≤ idx.toNat → exec (.read 1#2 idx) s = .next (answered s 0x80#8)) ∧
    (idx.toNat < 23 → exec (.read 2#2 idx) s = .next (answered s (bitResponse (s.r3.getLsbD idx.toNat)))) ∧
    (23 ≤ idx.toNat → exec (.read 2#2 idx) s = .next (answered s 0x80#8)) ∧
    exec (.read 3#2 idx) s = .next (answered s 0xA0#8) ∧
    (∀ w : CmdWord, w.extractLsb' 21 3 = 0b101#3 → decode w = .read (w.extractLsb' 5 2) (w.extractLsb' 0 5))

/-- 44_observation_commands.md R141: `RDCLK`. -/
def Obligations.RdclkAnswersTheClockBit : Prop :=
  ∀ s : State,
    exec (.rdclk 0#2) s = .next (answered s (bitResponse (s.r1.getLsbD 8))) ∧
    exec (.rdclk 1#2) s = .next (answered s (bitResponse (s.r2.getLsbD 10))) ∧
    exec (.rdclk 2#2) s = .next (answered s (bitResponse (s.r3.getLsbD 10))) ∧
    exec (.rdclk 3#2) s = .next (answered s 0xA0#8) ∧
    exec (.rdclk 0#2) s = exec (.read 0#2 8#5) s ∧ exec (.rdclk 1#2) s = exec (.read 1#2 10#5) s ∧
    exec (.rdclk 2#2) s = exec (.read 2#2 10#5) s ∧
    (∀ w : CmdWord, w.extractLsb' 21 3 = 0b110#3 → decode w = .rdclk (w.extractLsb' 5 2))

/-- 44_observation_commands.md R142: `RDOUT`; and in `Ready` the XOR of the three `RDOUT` results taken after a
`NEXTBIT` is that `NEXTBIT`'s keystream bit. -/
def Obligations.RdoutAnswersTheOutputBit : Prop :=
  (∀ s : State,
    exec (.rdout 0#2) s = .next (answered s (bitResponse (s.r1.getLsbD 18))) ∧
    exec (.rdout 1#2) s = .next (answered s (bitResponse (s.r2.getLsbD 21))) ∧
    exec (.rdout 2#2) s = .next (answered s (bitResponse (s.r3.getLsbD 22))) ∧
    exec (.rdout 3#2) s = .next (answered s 0xA0#8) ∧
    exec (.rdout 0#2) s = exec (.read 0#2 18#5) s ∧ exec (.rdout 1#2) s = exec (.read 1#2 21#5) s ∧
    exec (.rdout 2#2) s = exec (.read 2#2 22#5) s) ∧
  (∀ s : State, s.phase = .ready → ∃ t u1 u2 u3, exec .nextbit s = .next t ∧ exec (.rdout 0#2) t = .next u1 ∧
    exec (.rdout 1#2) u1 = .next u2 ∧ exec (.rdout 2#2) u2 = .next u3 ∧
    rspBit t.rspWord = (rspBit u1.rspWord ^^ rspBit u2.rspWord ^^ rspBit u3.rspWord)) ∧
  (∀ w : CmdWord, w.extractLsb' 21 3 = 0b111#3 → decode w = .rdout (w.extractLsb' 5 2))

/-- 43_keystream_generator.md, the single-cycle form: the keystream bit from the contents before the command. -/
def Obligations.NextbitSingleCycleForm : Prop :=
  ∀ s : State, s.phase = .ready → ∃ t, exec .nextbit s = .next t ∧
    rspBit t.rspWord =
      ((if s.r1.getLsbD 8 = majorityOf s then s.r1.getLsbD 17 else s.r1.getLsbD 18) ^^
       (if s.r2.getLsbD 10 = majorityOf s then s.r2.getLsbD 20 else s.r2.getLsbD 21) ^^
       (if s.r3.getLsbD 10 = majorityOf s then s.r3.getLsbD 21 else s.r3.getLsbD 22))

/-- 42_init_sequencer.md section 2: `MIXKEY` and `MIXFRAME` transform the registers alike, and so do `DISCARD` and
`NEXTBIT`. -/
def Obligations.PairsShareTheirRegisterTransformation : Prop :=
  (∀ (b : Bool) (s t : State), s.r1 = t.r1 → s.r2 = t.r2 → s.r3 = t.r3 → s.phase = .keyMixing →
    t.phase = .frameMixing → ∃ u v, exec (.mixkey b) s = .next u ∧ exec (.mixframe b) t = .next v ∧
      u.r1 = v.r1 ∧ u.r2 = v.r2 ∧ u.r3 = v.r3) ∧
  (∀ s t : State, s.r1 = t.r1 → s.r2 = t.r2 → s.r3 = t.r3 → s.phase = .discardClocking → t.phase = .ready →
    ∃ u v, exec .discard s = .next u ∧ exec .nextbit t = .next v ∧
      u.r1 = v.r1 ∧ u.r2 = v.r2 ∧ u.r3 = v.r3 ∧ rspMaj u.rspWord = rspMaj v.rspWord ∧
      rspClocked u.rspWord = rspClocked v.rspWord)

/-! ### Run to completion -/

/-- 42_init_sequencer.md section 3: `RUNALL`. It is the command sequence given there, ends in `Ready` with no error,
fails on an empty sequence with nothing issued, and is refused by the driver where a length cannot be declared. Where
the driver's report is held, and that a call with an empty sequence is one period without a command, is the model's
choice (assumption 6); that emptiness is checked before the length is its inference (assumption 7). -/
def Obligations.RunallIssuesTheSequence : Prop :=
  (∀ (key frame : List Bool) (s : State), key ≠ [] → frame ≠ [] → key.length ≤ 255 → frame.length ≤ 255 →
    ∃ t u, exec (.runall key frame) s = .next t ∧ t = { u with driverReport := .completed } ∧
      runSeq (.zero (BitVec.ofNat 8 key.length) (BitVec.ofNat 8 frame.length) ::
        (key.map .mixkey ++ frame.map .mixframe ++ List.replicate 100 .discard)) s = .next u ∧
      t.phase = .ready ∧ t.count = 0#8 ∧ t.klen.toNat = key.length ∧ t.flen.toNat = frame.length ∧
      rspErr t.rspWord = 0#3 ∧ t.inputs = s.inputs ∧ t.draws = s.draws) ∧
  (∀ (key frame : List Bool) (s : State), key = [] ∨ frame = [] →
    ∃ t, exec (.runall key frame) s = .next t ∧ SameEngine s t ∧ t.driverReport = .failed .emptyInput ∧
      t.rspValid = false ∧ t.inputs = s.inputs ∧ t.draws = s.draws) ∧
  (∀ (key frame : List Bool) (s : State), key ≠ [] → frame ≠ [] → 255 < key.length ∨ 255 < frame.length →
    exec (.runall key frame) s = .refused .runallSequenceTooLong)

/-- The model's choice (assumptions 2, 6, 7): the driver's `EmptyInput` stands in its own report, whatever the other
sequence's length; the port shows a period without a command, so `rsp_valid` is 0 and `rsp_word` is kept, and nothing
else changes. -/
def Obligations.RunallReportsEmptyInput : Prop :=
  ∀ (key frame : List Bool) (s : State), key = [] ∨ frame = [] →
    exec (.runall key frame) s = .next { s with rspValid := false, driverReport := .failed .emptyInput } ∧
    ∀ rest : List HostInput, s.inputs = .runAll key frame :: rest →
      ∃ t, step s = .next t ∧ (∀ rst : Bool, (portsOut t rst).rspValid = false) ∧ SameEngine s t ∧ t.inputs = rest

/-- 42_init_sequencer.md R110: one engine is driven stepwise, the words of a `RUNALL` issued one a period at the
command port for its `1 + klen + flen + NDISC` periods; another, in any state, performs `RUNALL` as one transition.
They end in the same engine state, and from there give the same keystream and, for any plaintext, the same
ciphertext. -/
def Obligations.RunallEqualsStepwise : Prop :=
  ∀ (key frame : List Bool) (s s' : State) (rest : List HostInput), key ≠ [] → frame ≠ [] → key.length ≤ 255 →
    frame.length ≤ 255 → s.inputs = issue (encode (.runall key frame)) ++ rest →
    ∃ t t', runSteps (1 + key.length + frame.length + 100) s = .next t ∧ exec (.runall key frame) s' = .next t' ∧
      SameEngine t t' ∧
      (∀ n, ∃ u u', runSeq (List.replicate (n + 1) .nextbit) t = .next u ∧
        runSeq (List.replicate (n + 1) .nextbit) t' = .next u' ∧ SameEngine u u' ∧ u.rspWord = u'.rspWord) ∧
      (∀ n, (keystream n t).length = n ∧ keystream n t = keystream n t') ∧
      ∀ plaintext : List Bool, List.zipWith xor plaintext (keystream plaintext.length t) =
        List.zipWith xor plaintext (keystream plaintext.length t')

/-- 42_init_sequencer.md section 4: two engines given the same commands, the first of them a successful `ZERO`, agree
in engine state and response after each, whatever their earlier history and the unspecified bits after reset. -/
def Obligations.AfterZeroHistoryIsForgotten : Prop :=
  ∀ (klen flen : Len) (is : List Instr) (s s' : State), klen ≠ 0#8 → flen ≠ 0#8 →
    (∀ i ∈ is, i.isCore = true) →
    ∃ t t', runSeq (.zero klen flen :: is) s = .next t ∧ runSeq (.zero klen flen :: is) s' = .next t' ∧
      SameEngine t t' ∧ t.rspWord = t'.rspWord

/-- 42_init_sequencer.md section 4: with an all-zero key and frame the registers are all zero at `Ready` and stay
so, and every keystream bit is 0 (response `0x07`). -/
def Obligations.AllZeroInputStaysZero : Prop :=
  ∀ (m n : Nat) (s : State), 1 ≤ m → m ≤ 255 → 1 ≤ n → n ≤ 255 →
    ∃ t, exec (.runall (List.replicate m false) (List.replicate n false)) s = .next t ∧
      t.r1 = 0#19 ∧ t.r2 = 0#22 ∧ t.r3 = 0#23 ∧
      ∀ j, ∃ u, runSeq (List.replicate (j + 1) .nextbit) t = .next u ∧
        u.r1 = 0#19 ∧ u.r2 = 0#22 ∧ u.r3 = 0#23 ∧ u.rspWord = 0x07#8

/-- 10_state.md section 2 and 42_init_sequencer.md section 2: `COUNT` is the number of key bits mixed so far; the
`KLEN`-th enters `FrameMixing` and every later `MIXKEY` fails with `PhaseOverrun`. -/
def Obligations.KeyBitsAreCountedUntilKlen : Prop :=
  ∀ (key : List Bool) (s : State), EngineInv s → s.phase = .zeroed → 1 ≤ key.length →
    key.length ≤ s.klen.toNat →
    ∃ t, runSeq (key.map .mixkey) s = .next t ∧
      (key.length < s.klen.toNat → t.phase = .keyMixing ∧ t.count.toNat = key.length) ∧
      (key.length = s.klen.toNat → t.phase = .frameMixing ∧ t.count = 0#8 ∧
        ∀ b, exec (.mixkey b) t = .next (answered t 0x40#8))

/-- The same for the frame bits and `FLEN`. -/
def Obligations.FrameBitsAreCountedUntilFlen : Prop :=
  ∀ (frame : List Bool) (s : State), EngineInv s → s.phase = .frameMixing → s.count = 0#8 → 1 ≤ frame.length →
    frame.length ≤ s.flen.toNat →
    ∃ t, runSeq (frame.map .mixframe) s = .next t ∧
      (frame.length < s.flen.toNat → t.phase = .frameMixing ∧ t.count.toNat = frame.length) ∧
      (frame.length = s.flen.toNat → t.phase = .discardClocking ∧ t.count = 0#8 ∧
        ∀ b, exec (.mixframe b) t = .next (answered t 0x40#8))

/-- 10_state.md section 2, for any instance that meets R10 and R11: `COUNT` is the number of discard clocks done;
the `NDISC`-th enters `Ready`, and one more fails with `PhaseOverrun`. -/
def Obligations.DiscardClocksAreCountedUntilNdisc : Prop :=
  ∀ (c : Config) (n : Nat) (s : State), c.valid = true → s.phase = .discardClocking → s.count = 0#8 →
    n ≤ c.ndisc →
    (n < c.ndisc → (discardTimes c n s).phase = .discardClocking ∧ (discardTimes c n s).count.toNat = n) ∧
    (n = c.ndisc → (discardTimes c n s).phase = .ready ∧ (discardTimes c n s).count = 0#8 ∧
      discardCmd c (discardTimes c n s) = answered (discardTimes c n s) 0x40#8)

/-! ### Rules of the whole machine -/

/-- 42_init_sequencer.md R102: the phase check common to the four commands that have home phases. -/
def Obligations.PhaseCheckOfHomePhases : Prop :=
  ∀ (i : Instr) (s : State), homePhases i ≠ [] →
    (s.phase ∈ homePhases i → ∃ t, exec i s = .next t ∧ rspErr t.rspWord = 0#3) ∧
    (s.phase ∉ homePhases i → (∀ p ∈ homePhases i, phaseRank s.phase < phaseRank p) →
      exec i s = .next (answered s 0x20#8)) ∧
    (s.phase ∉ homePhases i → ¬ (∀ p ∈ homePhases i, phaseRank s.phase < phaseRank p) →
      exec i s = .next (answered s 0x40#8))

/-- 60_exceptions.md R175 and R176: an engine command that reports an error changes nothing but the response, which is the
error code shifted left by five. -/
def Obligations.FailedCommandChangesNothing : Prop :=
  ∀ (i : Instr) (s t : State), i.isCore = true → exec i s = .next t → rspErr t.rspWord ≠ 0#3 →
    t = answered s ((rspErr t.rspWord).zeroExtend 8 <<< 5)

/-- 60_exceptions.md section 1: each command reports success or one of the errors listed for it, and no other: an
engine command in its response, `RUNALL` in the driver's report (assumption 6). -/
def Obligations.ErrorsEachCommandRaises : Prop :=
  ∀ (i : Instr) (s t : State), exec i s = .next t →
    (i.isCore = true → rspErr t.rspWord = 0#3 ∨ rspErr t.rspWord ∈ raisable i) ∧
    (i.isCore = false → (t.driverReport = .completed ∧ rspErr t.rspWord = 0#3) ∨
      ∃ e, t.driverReport = .failed e ∧ errCode (some e) ∈ raisable i)

/-- 30_encoding.md R61: the response fields of every engine command, on success and on failure. -/
def Obligations.ResponseFieldsOfEveryCommand : Prop :=
  ∀ (i : Instr) (s t : State), i.isCore = true → exec i s = .next t → t.rspValid = true ∧
    (rspErr t.rspWord ≠ 0#3 → t.rspWord = (rspErr t.rspWord).zeroExtend 8 <<< 5) ∧
    (rspErr t.rspWord = 0#3 →
      (∀ k f, i = .zero k f → t.rspWord = 0x00#8) ∧
      (∀ b, i = .mixkey b ∨ i = .mixframe b → t.rspWord = 0x07#8) ∧
      (i = .discard → CycleResponse s false t.rspWord) ∧
      (i = .nextbit → CycleResponse s (t.r1.getLsbD 18 ^^ t.r2.getLsbD 21 ^^ t.r3.getLsbD 22) t.rspWord) ∧
      (∀ sel idx, i = .read sel idx → ∃ k, selReg sel = some k ∧ t.rspWord = bitResponse (regBit k idx.toNat s)) ∧
      (∀ sel, i = .rdclk sel → ∃ k, selReg sel = some k ∧
        t.rspWord = bitResponse (regBit k (Config.std.wiring k).clk s)) ∧
      (∀ sel, i = .rdout sel → ∃ k, selReg sel = some k ∧
        t.rspWord = bitResponse (regBit k (Config.std.wiring k).out s)))

/-- 10_state.md R26: `PHASE` changes only as the table lists, and does change where the table says so; a phase change
clears `COUNT` unless the rule writes it; a failed command changes neither. -/
def Obligations.PhaseChangesOnlyAsListed : Prop :=
  (∀ (i : Instr) (s t : State), EngineInv s → i.isCore = true → exec i s = .next t →
    t.phase = s.phase ∨
    ((∃ k f, i = .zero k f ∧ rspErr t.rspWord = 0#3) ∧ t.phase = .zeroed ∧ t.count = 0#8) ∨
    ((∃ b, i = .mixkey b) ∧ s.phase = .zeroed ∧ 1 < s.klen.toNat ∧ t.phase = .keyMixing ∧ t.count = 1#8) ∨
    ((∃ b, i = .mixkey b) ∧ (s.phase = .zeroed ∧ s.klen.toNat = 1 ∨ s.phase = .keyMixing) ∧
      s.count.toNat + 1 = s.klen.toNat ∧ t.phase = .frameMixing ∧ t.count = 0#8) ∨
    ((∃ b, i = .mixframe b) ∧ s.phase = .frameMixing ∧ s.count.toNat + 1 = s.flen.toNat ∧
      t.phase = .discardClocking ∧ t.count = 0#8) ∨
    (i = .discard ∧ s.phase = .discardClocking ∧ s.count.toNat + 1 = Config.std.ndisc ∧ t.phase = .ready ∧
      t.count = 0#8)) ∧
  (∀ (i : Instr) (s t : State), EngineInv s → i.isCore = true → exec i s = .next t →
    (rspErr t.rspWord ≠ 0#3 → t.phase = s.phase ∧ t.count = s.count) ∧
    (rspErr t.rspWord = 0#3 →
      (∀ k f, i = .zero k f → t.phase = .zeroed) ∧
      (∀ b, i = .mixkey b → s.phase = .zeroed → 1 < s.klen.toNat → t.phase = .keyMixing) ∧
      (∀ b, i = .mixkey b → s.count.toNat + 1 = s.klen.toNat → t.phase = .frameMixing) ∧
      (∀ b, i = .mixframe b → s.count.toNat + 1 = s.flen.toNat → t.phase = .discardClocking) ∧
      (i = .discard → s.count.toNat + 1 = Config.std.ndisc → t.phase = .ready))) ∧
  (∀ (s t : State) (v : Bool) (w : CmdWord) (rest : List HostInput), s.inputs = .period true v w :: rest →
    step s = .next t → t.phase = .notStarted ∧ t.count = 0#8)

/-- 10_state.md R27: `KLEN` and `FLEN` are written only by a successful `ZERO`, from its two operands, which are
then in 1..255. -/
def Obligations.DeclaredLengthsWrittenOnlyByZero : Prop :=
  ∀ (i : Instr) (s t : State), i.isCore = true → exec i s = .next t →
    (t.klen = s.klen ∧ t.flen = s.flen ∧ ∀ k f, i = .zero k f → rspErr t.rspWord ≠ 0#3) ∨
    (∃ k f, i = .zero k f ∧ rspErr t.rspWord = 0#3 ∧ t.klen = k ∧ t.flen = f ∧ 1 ≤ k.toNat ∧ 1 ≤ f.toNat)

/-- 20_memory.md section 3: an observation command changes nothing but the response, and repeating it gives the
same state and response again. -/
def Obligations.ObservationsChangeOnlyTheResponse : Prop :=
  ∀ (i : Instr) (s : State) (sel : BitVec 2) (idx : BitVec 5),
    i = .read sel idx ∨ i = .rdclk sel ∨ i = .rdout sel →
    ∃ t, exec i s = .next t ∧ t = answered s t.rspWord ∧ exec i t = .next t

/-- The frame over the model's own fields (assumptions 1, 5, 6): no command touches the host's pending inputs or the
reset counter, no engine command and no reset touches the driver's report. -/
def Obligations.CommandsKeepTheHostsInputs : Prop :=
  (∀ (i : Instr) (s t : State), exec i s = .next t → t.inputs = s.inputs ∧ t.draws = s.draws ∧
    (i.isCore = true → t.driverReport = s.driverReport)) ∧
  (∀ (s t : State) (v : Bool) (w : CmdWord) (rest : List HostInput), s.inputs = .period true v w :: rest →
    step s = .next t → t.inputs = rest ∧ t.driverReport = s.driverReport)

/-- 60_exceptions.md section 3 and 10_state.md section 4: the next command is judged on the state alone; no command
reads the response of an earlier one. A `RUNALL` that issues nothing gives no response, so the word before it stays
(assumptions 2, 6). -/
def Obligations.ResponseIsNeverReadBack : Prop :=
  (∀ (i : Instr) (s : State) (v : Bool) (w : RspWord), (∀ key frame, i = .runall key frame → key ≠ [] ∧ frame ≠ []) →
    exec i { s with rspValid := v, rspWord := w } = exec i s) ∧
  (∀ (key frame : List Bool) (s t : State) (v : Bool) (w : RspWord), key = [] ∨ frame = [] →
    exec (.runall key frame) s = .next t →
    exec (.runall key frame) { s with rspValid := v, rspWord := w } = .next { t with rspWord := w })

/-- 42_init_sequencer.md sections 1 to 3, 43_keystream_generator.md, 44_observation_commands.md, 10_state.md section 2: whether a command
succeeds and how phase, counter and lengths move does not depend on the register contents, so nothing of it depends on
the unspecified bits. Of `RUNALL` it says so of the driver's report, whose form is the model's choice (assumption 6). -/
def Obligations.ControlIgnoresRegisterContents : Prop :=
  ∀ (i : Instr) (s s' t t' : State), s.phase = s'.phase → s.count = s'.count → s.klen = s'.klen →
    s.flen = s'.flen → exec i s = .next t → exec i s' = .next t' →
    t.phase = t'.phase ∧ t.count = t'.count ∧ t.klen = t'.klen ∧ t.flen = t'.flen ∧
      (i.isCore = true → rspErr t.rspWord = rspErr t'.rspWord) ∧
      (i.isCore = false → t.driverReport = t'.driverReport)

/-! ### What rests on the model's reading of the response port -/

/-- The model's choice (assumption 2): through any number of periods without a command `rsp_word` keeps its value,
and nothing but `rsp_valid` and the consumed inputs changes. -/
def Obligations.IdlePeriodsKeepTheResponseWord : Prop :=
  (∀ (n : Nat) (s : State), s.inputs = [] → runSteps (n + 1) s = .next { s with rspValid := false }) ∧
  (∀ (ws : List CmdWord) (s : State) (rest : List HostInput), ws ≠ [] →
    s.inputs = ws.map (.period false false) ++ rest →
    runSteps ws.length s = .next { s with inputs := rest, rspValid := false })

/-- The model's choice (assumption 6): the response that stands after a `RUNALL` is that of its last `DISCARD`, as when
its words are issued one a period; from one state the two drives then differ in the driver's report alone, and from
any other state the response is the same. -/
def Obligations.RunallLeavesTheLastResponse : Prop :=
  ∀ (key frame : List Bool) (s s' : State) (rest : List HostInput), key ≠ [] → frame ≠ [] → key.length ≤ 255 →
    frame.length ≤ 255 → s.inputs = issue (encode (.runall key frame)) ++ rest →
    ∃ t t', runSteps (1 + key.length + frame.length + 100) s = .next t ∧
      exec (.runall key frame) { s with inputs := rest } = .next { t with driverReport := .completed } ∧
      exec (.runall key frame) s' = .next t' ∧ t'.rspValid = true ∧ t'.rspWord = t.rspWord

/-! ### Lengths -/

/-- 30_encoding.md section 3: a command word has 24 bits and there are no other lengths. A string of 24 bits decodes
as the word it is; one of any other length is no command and is not presented at the port; every engine command is
one word, whose bits 23 to 21 are its opcode. -/
def Obligations.OnlyCommandWordsDecode : Prop :=
  (∀ w : CmdWord, decodeBits 24 w.toNat = .ok (decode w) ∧ decodeTableWord 24 w.toNat = some (decode w)) ∧
  (∀ nbits w : Nat, nbits ≠ 24 → decodeBits nbits w = .error (.notCommandWordLength nbits) ∧
    decodeTableWord nbits w = none ∧ ∀ s : State, s.withFetchWord nbits w = s) ∧
  (∀ i : Instr, i.isCore = true → ∃ w, encode i = [w] ∧ opcodeOf i = some (w.extractLsb' 21 3))
end

