-- ==== Sys2Proof/Laws/State.lean ====
section
/-! SUPPORT. What each update of the state does to each field, so that no later proof unfolds a record update. -/

namespace Sys2Proof.Machine

open Sys2Proof

/-! ### `respond` -/

@[simp] theorem respond_r1 (b m : Bool) (k : BitVec 3) (s : State) : (respond b m k s).r1 = s.r1 := rfl
@[simp] theorem respond_r2 (b m : Bool) (k : BitVec 3) (s : State) : (respond b m k s).r2 = s.r2 := rfl
@[simp] theorem respond_r3 (b m : Bool) (k : BitVec 3) (s : State) : (respond b m k s).r3 = s.r3 := rfl
@[simp] theorem respond_phase (b m : Bool) (k : BitVec 3) (s : State) : (respond b m k s).phase = s.phase := rfl
@[simp] theorem respond_count (b m : Bool) (k : BitVec 3) (s : State) : (respond b m k s).count = s.count := rfl
@[simp] theorem respond_klen (b m : Bool) (k : BitVec 3) (s : State) : (respond b m k s).klen = s.klen := rfl
@[simp] theorem respond_flen (b m : Bool) (k : BitVec 3) (s : State) : (respond b m k s).flen = s.flen := rfl
@[simp] theorem respond_rspValid (b m : Bool) (k : BitVec 3) (s : State) : (respond b m k s).rspValid = true := rfl
@[simp] theorem respond_rspWord (b m : Bool) (k : BitVec 3) (s : State) : (respond b m k s).rspWord = responseWord none b m k := rfl
@[simp] theorem respond_inputs (b m : Bool) (k : BitVec 3) (s : State) : (respond b m k s).inputs = s.inputs := rfl
@[simp] theorem respond_draws (b m : Bool) (k : BitVec 3) (s : State) : (respond b m k s).draws = s.draws := rfl
@[simp] theorem respond_driverReport (b m : Bool) (k : BitVec 3) (s : State) : (respond b m k s).driverReport = s.driverReport := rfl

/-! ### `failWith` -/

@[simp] theorem failWith_r1 (e : Err) (s : State) : (failWith e s).r1 = s.r1 := rfl
@[simp] theorem failWith_r2 (e : Err) (s : State) : (failWith e s).r2 = s.r2 := rfl
@[simp] theorem failWith_r3 (e : Err) (s : State) : (failWith e s).r3 = s.r3 := rfl
@[simp] theorem failWith_phase (e : Err) (s : State) : (failWith e s).phase = s.phase := rfl
@[simp] theorem failWith_count (e : Err) (s : State) : (failWith e s).count = s.count := rfl
@[simp] theorem failWith_klen (e : Err) (s : State) : (failWith e s).klen = s.klen := rfl
@[simp] theorem failWith_flen (e : Err) (s : State) : (failWith e s).flen = s.flen := rfl
@[simp] theorem failWith_rspValid (e : Err) (s : State) : (failWith e s).rspValid = true := rfl
@[simp] theorem failWith_rspWord (e : Err) (s : State) : (failWith e s).rspWord = responseWord (some e) false false 0#3 := rfl
@[simp] theorem failWith_inputs (e : Err) (s : State) : (failWith e s).inputs = s.inputs := rfl
@[simp] theorem failWith_draws (e : Err) (s : State) : (failWith e s).draws = s.draws := rfl
@[simp] theorem failWith_driverReport (e : Err) (s : State) : (failWith e s).driverReport = s.driverReport := rfl

/-! ### `enterPhase` -/

@[simp] theorem enterPhase_r1 (p : Phase) (s : State) : (enterPhase p s).r1 = s.r1 := rfl
@[simp] theorem enterPhase_r2 (p : Phase) (s : State) : (enterPhase p s).r2 = s.r2 := rfl
@[simp] theorem enterPhase_r3 (p : Phase) (s : State) : (enterPhase p s).r3 = s.r3 := rfl
@[simp] theorem enterPhase_phase (p : Phase) (s : State) : (enterPhase p s).phase = p := rfl
@[simp] theorem enterPhase_count (p : Phase) (s : State) : (enterPhase p s).count = 0#8 := rfl
@[simp] theorem enterPhase_klen (p : Phase) (s : State) : (enterPhase p s).klen = s.klen := rfl
@[simp] theorem enterPhase_flen (p : Phase) (s : State) : (enterPhase p s).flen = s.flen := rfl
@[simp] theorem enterPhase_rspValid (p : Phase) (s : State) : (enterPhase p s).rspValid = s.rspValid := rfl
@[simp] theorem enterPhase_rspWord (p : Phase) (s : State) : (enterPhase p s).rspWord = s.rspWord := rfl
@[simp] theorem enterPhase_inputs (p : Phase) (s : State) : (enterPhase p s).inputs = s.inputs := rfl
@[simp] theorem enterPhase_draws (p : Phase) (s : State) : (enterPhase p s).draws = s.draws := rfl
@[simp] theorem enterPhase_driverReport (p : Phase) (s : State) : (enterPhase p s).driverReport = s.driverReport := rfl

/-! ### `idlePeriod` -/

@[simp] theorem idlePeriod_r1 (s : State) : (idlePeriod s).r1 = s.r1 := rfl
@[simp] theorem idlePeriod_r2 (s : State) : (idlePeriod s).r2 = s.r2 := rfl
@[simp] theorem idlePeriod_r3 (s : State) : (idlePeriod s).r3 = s.r3 := rfl
@[simp] theorem idlePeriod_phase (s : State) : (idlePeriod s).phase = s.phase := rfl
@[simp] theorem idlePeriod_count (s : State) : (idlePeriod s).count = s.count := rfl
@[simp] theorem idlePeriod_klen (s : State) : (idlePeriod s).klen = s.klen := rfl
@[simp] theorem idlePeriod_flen (s : State) : (idlePeriod s).flen = s.flen := rfl
@[simp] theorem idlePeriod_rspValid (s : State) : (idlePeriod s).rspValid = false := rfl
@[simp] theorem idlePeriod_rspWord (s : State) : (idlePeriod s).rspWord = s.rspWord := rfl
@[simp] theorem idlePeriod_inputs (s : State) : (idlePeriod s).inputs = s.inputs := rfl
@[simp] theorem idlePeriod_draws (s : State) : (idlePeriod s).draws = s.draws := rfl
@[simp] theorem idlePeriod_driverReport (s : State) : (idlePeriod s).driverReport = s.driverReport := rfl

/-! ### `reportDriver` -/

@[simp] theorem reportDriver_r1 (r : DriverReport) (s : State) : (reportDriver r s).r1 = s.r1 := rfl
@[simp] theorem reportDriver_r2 (r : DriverReport) (s : State) : (reportDriver r s).r2 = s.r2 := rfl
@[simp] theorem reportDriver_r3 (r : DriverReport) (s : State) : (reportDriver r s).r3 = s.r3 := rfl
@[simp] theorem reportDriver_phase (r : DriverReport) (s : State) : (reportDriver r s).phase = s.phase := rfl
@[simp] theorem reportDriver_count (r : DriverReport) (s : State) : (reportDriver r s).count = s.count := rfl
@[simp] theorem reportDriver_klen (r : DriverReport) (s : State) : (reportDriver r s).klen = s.klen := rfl
@[simp] theorem reportDriver_flen (r : DriverReport) (s : State) : (reportDriver r s).flen = s.flen := rfl
@[simp] theorem reportDriver_rspValid (r : DriverReport) (s : State) : (reportDriver r s).rspValid = s.rspValid := rfl
@[simp] theorem reportDriver_rspWord (r : DriverReport) (s : State) : (reportDriver r s).rspWord = s.rspWord := rfl
@[simp] theorem reportDriver_inputs (r : DriverReport) (s : State) : (reportDriver r s).inputs = s.inputs := rfl
@[simp] theorem reportDriver_draws (r : DriverReport) (s : State) : (reportDriver r s).draws = s.draws := rfl
@[simp] theorem reportDriver_driverReport (r : DriverReport) (s : State) : (reportDriver r s).driverReport = r := rfl

/-! ### `hardwareReset` -/

@[simp] theorem hardwareReset_r1 (s : State) : (hardwareReset s).r1 = Config.freeR1 (s.draws + 1) := rfl
@[simp] theorem hardwareReset_r2 (s : State) : (hardwareReset s).r2 = Config.freeR2 (s.draws + 1) := rfl
@[simp] theorem hardwareReset_r3 (s : State) : (hardwareReset s).r3 = Config.freeR3 (s.draws + 1) := rfl
@[simp] theorem hardwareReset_phase (s : State) : (hardwareReset s).phase = .notStarted := rfl
@[simp] theorem hardwareReset_count (s : State) : (hardwareReset s).count = 0#8 := rfl
@[simp] theorem hardwareReset_klen (s : State) : (hardwareReset s).klen = 0#8 := rfl
@[simp] theorem hardwareReset_flen (s : State) : (hardwareReset s).flen = 0#8 := rfl
@[simp] theorem hardwareReset_rspValid (s : State) : (hardwareReset s).rspValid = false := rfl
@[simp] theorem hardwareReset_rspWord (s : State) : (hardwareReset s).rspWord = Config.freeRsp (s.draws + 1) := rfl
@[simp] theorem hardwareReset_inputs (s : State) : (hardwareReset s).inputs = s.inputs := rfl
@[simp] theorem hardwareReset_draws (s : State) : (hardwareReset s).draws = s.draws + 1 := rfl
@[simp] theorem hardwareReset_driverReport (s : State) : (hardwareReset s).driverReport = s.driverReport := rfl

/-! ### `answered` -/

@[simp] theorem answered_r1 (s : State) (w : RspWord) : (answered s w).r1 = s.r1 := rfl
@[simp] theorem answered_r2 (s : State) (w : RspWord) : (answered s w).r2 = s.r2 := rfl
@[simp] theorem answered_r3 (s : State) (w : RspWord) : (answered s w).r3 = s.r3 := rfl
@[simp] theorem answered_phase (s : State) (w : RspWord) : (answered s w).phase = s.phase := rfl
@[simp] theorem answered_count (s : State) (w : RspWord) : (answered s w).count = s.count := rfl
@[simp] theorem answered_klen (s : State) (w : RspWord) : (answered s w).klen = s.klen := rfl
@[simp] theorem answered_flen (s : State) (w : RspWord) : (answered s w).flen = s.flen := rfl
@[simp] theorem answered_rspValid (s : State) (w : RspWord) : (answered s w).rspValid = true := rfl
@[simp] theorem answered_rspWord (s : State) (w : RspWord) : (answered s w).rspWord = w := rfl
@[simp] theorem answered_inputs (s : State) (w : RspWord) : (answered s w).inputs = s.inputs := rfl
@[simp] theorem answered_draws (s : State) (w : RspWord) : (answered s w).draws = s.draws := rfl
@[simp] theorem answered_driverReport (s : State) (w : RspWord) : (answered s w).driverReport = s.driverReport := rfl

/-! ### `progress` changes `PHASE` and `COUNT` only -/

@[simp] theorem progress_r1 (p q : Phase) (n : Nat) (s : State) : (progress p q n s).r1 = s.r1 := by
  unfold progress; split <;> rfl
@[simp] theorem progress_r2 (p q : Phase) (n : Nat) (s : State) : (progress p q n s).r2 = s.r2 := by
  unfold progress; split <;> rfl
@[simp] theorem progress_r3 (p q : Phase) (n : Nat) (s : State) : (progress p q n s).r3 = s.r3 := by
  unfold progress; split <;> rfl
@[simp] theorem progress_klen (p q : Phase) (n : Nat) (s : State) : (progress p q n s).klen = s.klen := by
  unfold progress; split <;> rfl
@[simp] theorem progress_flen (p q : Phase) (n : Nat) (s : State) : (progress p q n s).flen = s.flen := by
  unfold progress; split <;> rfl
@[simp] theorem progress_rspValid (p q : Phase) (n : Nat) (s : State) : (progress p q n s).rspValid = s.rspValid := by
  unfold progress; split <;> rfl
@[simp] theorem progress_rspWord (p q : Phase) (n : Nat) (s : State) : (progress p q n s).rspWord = s.rspWord := by
  unfold progress; split <;> rfl
@[simp] theorem progress_inputs (p q : Phase) (n : Nat) (s : State) : (progress p q n s).inputs = s.inputs := by
  unfold progress; split <;> rfl
@[simp] theorem progress_draws (p q : Phase) (n : Nat) (s : State) : (progress p q n s).draws = s.draws := by
  unfold progress; split <;> rfl
@[simp] theorem progress_driverReport (p q : Phase) (n : Nat) (s : State) : (progress p q n s).driverReport = s.driverReport := by
  unfold progress; split <;> rfl

/-! ### `regZero` on the three registers -/

@[simp] theorem regZero_r1_r1 (s : State) : (regZero .r1 s).r1 = 0#19 := rfl
@[simp] theorem regZero_r1_r2 (s : State) : (regZero .r1 s).r2 = s.r2 := rfl
@[simp] theorem regZero_r1_r3 (s : State) : (regZero .r1 s).r3 = s.r3 := rfl
@[simp] theorem regZero_r1_phase (s : State) : (regZero .r1 s).phase = s.phase := rfl
@[simp] theorem regZero_r1_count (s : State) : (regZero .r1 s).count = s.count := rfl
@[simp] theorem regZero_r1_klen (s : State) : (regZero .r1 s).klen = s.klen := rfl
@[simp] theorem regZero_r1_flen (s : State) : (regZero .r1 s).flen = s.flen := rfl
@[simp] theorem regZero_r1_rspValid (s : State) : (regZero .r1 s).rspValid = s.rspValid := rfl
@[simp] theorem regZero_r1_rspWord (s : State) : (regZero .r1 s).rspWord = s.rspWord := rfl
@[simp] theorem regZero_r1_inputs (s : State) : (regZero .r1 s).inputs = s.inputs := rfl
@[simp] theorem regZero_r1_draws (s : State) : (regZero .r1 s).draws = s.draws := rfl
@[simp] theorem regZero_r1_driverReport (s : State) : (regZero .r1 s).driverReport = s.driverReport := rfl
@[simp] theorem regZero_r2_r1 (s : State) : (regZero .r2 s).r1 = s.r1 := rfl
@[simp] theorem regZero_r2_r2 (s : State) : (regZero .r2 s).r2 = 0#22 := rfl
@[simp] theorem regZero_r2_r3 (s : State) : (regZero .r2 s).r3 = s.r3 := rfl
@[simp] theorem regZero_r2_phase (s : State) : (regZero .r2 s).phase = s.phase := rfl
@[simp] theorem regZero_r2_count (s : State) : (regZero .r2 s).count = s.count := rfl
@[simp] theorem regZero_r2_klen (s : State) : (regZero .r2 s).klen = s.klen := rfl
@[simp] theorem regZero_r2_flen (s : State) : (regZero .r2 s).flen = s.flen := rfl
@[simp] theorem regZero_r2_rspValid (s : State) : (regZero .r2 s).rspValid = s.rspValid := rfl
@[simp] theorem regZero_r2_rspWord (s : State) : (regZero .r2 s).rspWord = s.rspWord := rfl
@[simp] theorem regZero_r2_inputs (s : State) : (regZero .r2 s).inputs = s.inputs := rfl
@[simp] theorem regZero_r2_draws (s : State) : (regZero .r2 s).draws = s.draws := rfl
@[simp] theorem regZero_r2_driverReport (s : State) : (regZero .r2 s).driverReport = s.driverReport := rfl
@[simp] theorem regZero_r3_r1 (s : State) : (regZero .r3 s).r1 = s.r1 := rfl
@[simp] theorem regZero_r3_r2 (s : State) : (regZero .r3 s).r2 = s.r2 := rfl
@[simp] theorem regZero_r3_r3 (s : State) : (regZero .r3 s).r3 = 0#23 := rfl
@[simp] theorem regZero_r3_phase (s : State) : (regZero .r3 s).phase = s.phase := rfl
@[simp] theorem regZero_r3_count (s : State) : (regZero .r3 s).count = s.count := rfl
@[simp] theorem regZero_r3_klen (s : State) : (regZero .r3 s).klen = s.klen := rfl
@[simp] theorem regZero_r3_flen (s : State) : (regZero .r3 s).flen = s.flen := rfl
@[simp] theorem regZero_r3_rspValid (s : State) : (regZero .r3 s).rspValid = s.rspValid := rfl
@[simp] theorem regZero_r3_rspWord (s : State) : (regZero .r3 s).rspWord = s.rspWord := rfl
@[simp] theorem regZero_r3_inputs (s : State) : (regZero .r3 s).inputs = s.inputs := rfl
@[simp] theorem regZero_r3_draws (s : State) : (regZero .r3 s).draws = s.draws := rfl
@[simp] theorem regZero_r3_driverReport (s : State) : (regZero .r3 s).driverReport = s.driverReport := rfl

/-! ### `regClock` on the three registers: register `k` alone changes -/

@[simp] theorem regClock_r1_r1 (c : Config) (ext : Option Bool) (s : State) : (regClock c .r1 ext s).2.r1 = s.r1.shiftConcat (fb c .r1 ext s) := rfl
@[simp] theorem regClock_r1_r2 (c : Config) (ext : Option Bool) (s : State) : (regClock c .r1 ext s).2.r2 = s.r2 := rfl
@[simp] theorem regClock_r1_r3 (c : Config) (ext : Option Bool) (s : State) : (regClock c .r1 ext s).2.r3 = s.r3 := rfl
@[simp] theorem regClock_r1_phase (c : Config) (ext : Option Bool) (s : State) : (regClock c .r1 ext s).2.phase = s.phase := rfl
@[simp] theorem regClock_r1_count (c : Config) (ext : Option Bool) (s : State) : (regClock c .r1 ext s).2.count = s.count := rfl
@[simp] theorem regClock_r1_klen (c : Config) (ext : Option Bool) (s : State) : (regClock c .r1 ext s).2.klen = s.klen := rfl
@[simp] theorem regClock_r1_flen (c : Config) (ext : Option Bool) (s : State) : (regClock c .r1 ext s).2.flen = s.flen := rfl
@[simp] theorem regClock_r1_rspValid (c : Config) (ext : Option Bool) (s : State) : (regClock c .r1 ext s).2.rspValid = s.rspValid := rfl
@[simp] theorem regClock_r1_rspWord (c : Config) (ext : Option Bool) (s : State) : (regClock c .r1 ext s).2.rspWord = s.rspWord := rfl
@[simp] theorem regClock_r1_inputs (c : Config) (ext : Option Bool) (s : State) : (regClock c .r1 ext s).2.inputs = s.inputs := rfl
@[simp] theorem regClock_r1_draws (c : Config) (ext : Option Bool) (s : State) : (regClock c .r1 ext s).2.draws = s.draws := rfl
@[simp] theorem regClock_r1_driverReport (c : Config) (ext : Option Bool) (s : State) : (regClock c .r1 ext s).2.driverReport = s.driverReport := rfl
@[simp] theorem regClock_r2_r1 (c : Config) (ext : Option Bool) (s : State) : (regClock c .r2 ext s).2.r1 = s.r1 := rfl
@[simp] theorem regClock_r2_r2 (c : Config) (ext : Option Bool) (s : State) : (regClock c .r2 ext s).2.r2 = s.r2.shiftConcat (fb c .r2 ext s) := rfl
@[simp] theorem regClock_r2_r3 (c : Config) (ext : Option Bool) (s : State) : (regClock c .r2 ext s).2.r3 = s.r3 := rfl
@[simp] theorem regClock_r2_phase (c : Config) (ext : Option Bool) (s : State) : (regClock c .r2 ext s).2.phase = s.phase := rfl
@[simp] theorem regClock_r2_count (c : Config) (ext : Option Bool) (s : State) : (regClock c .r2 ext s).2.count = s.count := rfl
@[simp] theorem regClock_r2_klen (c : Config) (ext : Option Bool) (s : State) : (regClock c .r2 ext s).2.klen = s.klen := rfl
@[simp] theorem regClock_r2_flen (c : Config) (ext : Option Bool) (s : State) : (regClock c .r2 ext s).2.flen = s.flen := rfl
@[simp] theorem regClock_r2_rspValid (c : Config) (ext : Option Bool) (s : State) : (regClock c .r2 ext s).2.rspValid = s.rspValid := rfl
@[simp] theorem regClock_r2_rspWord (c : Config) (ext : Option Bool) (s : State) : (regClock c .r2 ext s).2.rspWord = s.rspWord := rfl
@[simp] theorem regClock_r2_inputs (c : Config) (ext : Option Bool) (s : State) : (regClock c .r2 ext s).2.inputs = s.inputs := rfl
@[simp] theorem regClock_r2_draws (c : Config) (ext : Option Bool) (s : State) : (regClock c .r2 ext s).2.draws = s.draws := rfl
@[simp] theorem regClock_r2_driverReport (c : Config) (ext : Option Bool) (s : State) : (regClock c .r2 ext s).2.driverReport = s.driverReport := rfl
@[simp] theorem regClock_r3_r1 (c : Config) (ext : Option Bool) (s : State) : (regClock c .r3 ext s).2.r1 = s.r1 := rfl
@[simp] theorem regClock_r3_r2 (c : Config) (ext : Option Bool) (s : State) : (regClock c .r3 ext s).2.r2 = s.r2 := rfl
@[simp] theorem regClock_r3_r3 (c : Config) (ext : Option Bool) (s : State) : (regClock c .r3 ext s).2.r3 = s.r3.shiftConcat (fb c .r3 ext s) := rfl
@[simp] theorem regClock_r3_phase (c : Config) (ext : Option Bool) (s : State) : (regClock c .r3 ext s).2.phase = s.phase := rfl
@[simp] theorem regClock_r3_count (c : Config) (ext : Option Bool) (s : State) : (regClock c .r3 ext s).2.count = s.count := rfl
@[simp] theorem regClock_r3_klen (c : Config) (ext : Option Bool) (s : State) : (regClock c .r3 ext s).2.klen = s.klen := rfl
@[simp] theorem regClock_r3_flen (c : Config) (ext : Option Bool) (s : State) : (regClock c .r3 ext s).2.flen = s.flen := rfl
@[simp] theorem regClock_r3_rspValid (c : Config) (ext : Option Bool) (s : State) : (regClock c .r3 ext s).2.rspValid = s.rspValid := rfl
@[simp] theorem regClock_r3_rspWord (c : Config) (ext : Option Bool) (s : State) : (regClock c .r3 ext s).2.rspWord = s.rspWord := rfl
@[simp] theorem regClock_r3_inputs (c : Config) (ext : Option Bool) (s : State) : (regClock c .r3 ext s).2.inputs = s.inputs := rfl
@[simp] theorem regClock_r3_draws (c : Config) (ext : Option Bool) (s : State) : (regClock c .r3 ext s).2.draws = s.draws := rfl
@[simp] theorem regClock_r3_driverReport (c : Config) (ext : Option Bool) (s : State) : (regClock c .r3 ext s).2.driverReport = s.driverReport := rfl

/-! ### `mixAll` and a majority cycle change the registers only -/

@[simp] theorem mixAll_phase (c : Config) (b : Bool) (s : State) : (mixAll c b s).phase = s.phase := rfl
@[simp] theorem mixAll_count (c : Config) (b : Bool) (s : State) : (mixAll c b s).count = s.count := rfl
@[simp] theorem mixAll_klen (c : Config) (b : Bool) (s : State) : (mixAll c b s).klen = s.klen := rfl
@[simp] theorem mixAll_flen (c : Config) (b : Bool) (s : State) : (mixAll c b s).flen = s.flen := rfl
@[simp] theorem mixAll_rspValid (c : Config) (b : Bool) (s : State) : (mixAll c b s).rspValid = s.rspValid := rfl
@[simp] theorem mixAll_rspWord (c : Config) (b : Bool) (s : State) : (mixAll c b s).rspWord = s.rspWord := rfl
@[simp] theorem mixAll_inputs (c : Config) (b : Bool) (s : State) : (mixAll c b s).inputs = s.inputs := rfl
@[simp] theorem mixAll_draws (c : Config) (b : Bool) (s : State) : (mixAll c b s).draws = s.draws := rfl
@[simp] theorem mixAll_driverReport (c : Config) (b : Bool) (s : State) : (mixAll c b s).driverReport = s.driverReport := rfl
@[simp] theorem mixAll_r1 (c : Config) (b : Bool) (s : State) : (mixAll c b s).r1 = s.r1.shiftConcat (fb c .r1 (some b) s) := rfl
@[simp] theorem mixAll_r2 (c : Config) (b : Bool) (s : State) : (mixAll c b s).r2 = s.r2.shiftConcat (fb c .r2 (some b) s) := rfl
@[simp] theorem mixAll_r3 (c : Config) (b : Bool) (s : State) : (mixAll c b s).r3 = s.r3.shiftConcat (fb c .r3 (some b) s) := rfl
@[simp] theorem advanceIf_phase (c : Config) (k : RegName) (a : Bool) (s : State) : (advanceIf c k a s).phase = s.phase := by
  cases a <;> cases k <;> rfl
@[simp] theorem advanceIf_count (c : Config) (k : RegName) (a : Bool) (s : State) : (advanceIf c k a s).count = s.count := by
  cases a <;> cases k <;> rfl
@[simp] theorem advanceIf_klen (c : Config) (k : RegName) (a : Bool) (s : State) : (advanceIf c k a s).klen = s.klen := by
  cases a <;> cases k <;> rfl
@[simp] theorem advanceIf_flen (c : Config) (k : RegName) (a : Bool) (s : State) : (advanceIf c k a s).flen = s.flen := by
  cases a <;> cases k <;> rfl
@[simp] theorem advanceIf_rspValid (c : Config) (k : RegName) (a : Bool) (s : State) : (advanceIf c k a s).rspValid = s.rspValid := by
  cases a <;> cases k <;> rfl
@[simp] theorem advanceIf_rspWord (c : Config) (k : RegName) (a : Bool) (s : State) : (advanceIf c k a s).rspWord = s.rspWord := by
  cases a <;> cases k <;> rfl
@[simp] theorem advanceIf_inputs (c : Config) (k : RegName) (a : Bool) (s : State) : (advanceIf c k a s).inputs = s.inputs := by
  cases a <;> cases k <;> rfl
@[simp] theorem advanceIf_draws (c : Config) (k : RegName) (a : Bool) (s : State) : (advanceIf c k a s).draws = s.draws := by
  cases a <;> cases k <;> rfl
@[simp] theorem advanceIf_driverReport (c : Config) (k : RegName) (a : Bool) (s : State) : (advanceIf c k a s).driverReport = s.driverReport := by
  cases a <;> cases k <;> rfl
@[simp] theorem decideAndClock_after_phase (c : Config) (s : State) : (decideAndClock c s).after.phase = s.phase := by
  simp [decideAndClock]
@[simp] theorem decideAndClock_after_count (c : Config) (s : State) : (decideAndClock c s).after.count = s.count := by
  simp [decideAndClock]
@[simp] theorem decideAndClock_after_klen (c : Config) (s : State) : (decideAndClock c s).after.klen = s.klen := by
  simp [decideAndClock]
@[simp] theorem decideAndClock_after_flen (c : Config) (s : State) : (decideAndClock c s).after.flen = s.flen := by
  simp [decideAndClock]
@[simp] theorem decideAndClock_after_rspValid (c : Config) (s : State) : (decideAndClock c s).after.rspValid = s.rspValid := by
  simp [decideAndClock]
@[simp] theorem decideAndClock_after_rspWord (c : Config) (s : State) : (decideAndClock c s).after.rspWord = s.rspWord := by
  simp [decideAndClock]
@[simp] theorem decideAndClock_after_inputs (c : Config) (s : State) : (decideAndClock c s).after.inputs = s.inputs := by
  simp [decideAndClock]
@[simp] theorem decideAndClock_after_draws (c : Config) (s : State) : (decideAndClock c s).after.draws = s.draws := by
  simp [decideAndClock]
@[simp] theorem decideAndClock_after_driverReport (c : Config) (s : State) : (decideAndClock c s).after.driverReport = s.driverReport := by
  simp [decideAndClock]

end Sys2Proof.Machine
end

