-- ==== Sys2Proof/Laws/Registers.lean ====
section
/-! SUPPORT. The register primitives and the clock controller: what each reads, what each writes, and the parallel
forms of 40_register_primitives.md R76 and 41_clock_controller.md R94. -/

namespace Sys2Proof.Machine

open Sys2Proof

/-- Two states agree on register `k`. -/
def SameReg (k : RegName) (s t : State) : Prop := ∀ i, regBit k i s = regBit k i t

theorem SameReg.refl (k : RegName) (s : State) : SameReg k s s := fun _ => rfl

/-- `fb` reads register `k` only (R71). -/
theorem fb_congr {k : RegName} {s t : State} (h : SameReg k s t) (c : Config) (ext : Option Bool) :
    fb c k ext s = fb c k ext t := by
  simp only [fb, h _]

/-- Shifting in a bit: index 0 takes it (R72). -/
theorem shiftConcat_zero {n : Nat} (r : BitVec (n + 1)) (b : Bool) : (r.shiftConcat b).getLsbD 0 = b := by
  rw [BitVec.getLsbD_shiftConcat]; simp

/-- Shifting in a bit: every other index takes the value of the index before it (R72). -/
theorem shiftConcat_succ {n : Nat} (r : BitVec n) (b : Bool) {i : Nat} (h1 : 1 ≤ i) (h2 : i < n) :
    (r.shiftConcat b).getLsbD i = r.getLsbD (i - 1) := by
  have h0 : i ≠ 0 := by omega
  rw [BitVec.getLsbD_shiftConcat]; simp [h0, h2]

/-- The feedback of R1 in the instance of the spec (R71). -/
theorem fb_std_r1 (e : Bool) (s : State) : fb Config.std .r1 (some e) s =
    (s.r1.getLsbD 13 ^^ s.r1.getLsbD 16 ^^ s.r1.getLsbD 17 ^^ s.r1.getLsbD 18 ^^ e) := by
  simp [fb, Config.wiring, Config.std, regBit]

/-- The feedback of R2 in the instance of the spec (R71). -/
theorem fb_std_r2 (e : Bool) (s : State) : fb Config.std .r2 (some e) s =
    (s.r2.getLsbD 20 ^^ s.r2.getLsbD 21 ^^ e) := by
  simp [fb, Config.wiring, Config.std, regBit]

/-- The feedback of R3 in the instance of the spec (R71). -/
theorem fb_std_r3 (e : Bool) (s : State) : fb Config.std .r3 (some e) s =
    (s.r3.getLsbD 7 ^^ s.r3.getLsbD 20 ^^ s.r3.getLsbD 21 ^^ s.r3.getLsbD 22 ^^ e) := by
  simp [fb, Config.wiring, Config.std, regBit]

/-- No external input is external input 0 (R71). -/
theorem fb_none (c : Config) (k : RegName) (s : State) : fb c k none s = fb c k (some false) s := by
  simp [fb]

/-- All three registers advance at once from the contents before the command (R76). -/
theorem mixAll_eq (c : Config) (b : Bool) (s : State) : mixAll c b s =
    { s with r1 := s.r1.shiftConcat (fb c .r1 (some b) s)
             r2 := s.r2.shiftConcat (fb c .r2 (some b) s)
             r3 := s.r3.shiftConcat (fb c .r3 (some b) s) } := rfl

/-- What `advanceIf` does to R1. -/
theorem advanceIf_r1_eq (c : Config) (a : Bool) (s : State) : advanceIf c .r1 a s =
    { s with r1 := if a then s.r1.shiftConcat (fb c .r1 none s) else s.r1 } := by
  cases a <;> rfl

/-- What `advanceIf` does to R2. -/
theorem advanceIf_r2_eq (c : Config) (a : Bool) (s : State) : advanceIf c .r2 a s =
    { s with r2 := if a then s.r2.shiftConcat (fb c .r2 none s) else s.r2 } := by
  cases a <;> rfl

/-- What `advanceIf` does to R3. -/
theorem advanceIf_r3_eq (c : Config) (a : Bool) (s : State) : advanceIf c .r3 a s =
    { s with r3 := if a then s.r3.shiftConcat (fb c .r3 none s) else s.r3 } := by
  cases a <;> rfl

/-- The majority of the clock taps of `s`. -/
def majOf (c : Config) (s : State) : Bool := maj (clockBit c .r1 s) (clockBit c .r2 s) (clockBit c .r3 s)

/-- A majority cycle, all three registers chosen from the contents before it (41_clock_controller.md R94). -/
theorem decideAndClock_eq (c : Config) (s : State) : decideAndClock c s =
    { clocked := clockedMask (clockBit c .r1 s == majOf c s) (clockBit c .r2 s == majOf c s)
        (clockBit c .r3 s == majOf c s)
      majority := majOf c s
      after := { s with
        r1 := if clockBit c .r1 s == majOf c s then s.r1.shiftConcat (fb c .r1 none s) else s.r1
        r2 := if clockBit c .r2 s == majOf c s then s.r2.shiftConcat (fb c .r2 none s) else s.r2
        r3 := if clockBit c .r3 s == majOf c s then s.r3.shiftConcat (fb c .r3 none s) else s.r3 } } := by
  simp only [decideAndClock, advanceIf_r1_eq, advanceIf_r2_eq, advanceIf_r3_eq, majOf]
  rfl

/-- The majority as the sum of products of R90. -/
theorem maj_eq (a b d : Bool) : maj a b d = ((a && b) || (a && d) || (b && d)) := by
  cases a <;> cases b <;> cases d <;> rfl

/-- The majority of the spec's instance. -/
theorem majOf_std (s : State) : majOf Config.std s = majorityOf s := by
  simp [majOf, majorityOf, maj_eq, clockBit, regBit, Config.wiring, Config.std]

@[simp] theorem clockedMask_getElem_zero (a b d : Bool) : (clockedMask a b d)[0] = a := by
  cases a <;> cases b <;> cases d <;> rfl

@[simp] theorem clockedMask_getElem_one (a b d : Bool) : (clockedMask a b d)[1] = b := by
  cases a <;> cases b <;> cases d <;> rfl

@[simp] theorem clockedMask_getElem_two (a b d : Bool) : (clockedMask a b d)[2] = d := by
  cases a <;> cases b <;> cases d <;> rfl

/-- Below 255 the counter goes up by one (10_state.md R25: it never wraps). -/
theorem count_succ_toNat {x : Len} (h : x.toNat + 1 < 256) : (x + 1#8).toNat = x.toNat + 1 := by
  simp [BitVec.toNat_add]; omega

/-- `progress` either enters the next phase with the counter cleared, or counts one more step of its phase. -/
theorem progress_cases (p q : Phase) (n : Nat) (s : State) :
    (s.count.toNat + 1 = n ∧ progress p q n s = { s with phase := q, count := 0#8 }) ∨
    (s.count.toNat + 1 ≠ n ∧ progress p q n s = { s with phase := p, count := s.count + 1#8 }) := by
  by_cases h : s.count.toNat + 1 = n
  · exact .inl ⟨h, by simp [progress, h, enterPhase]⟩
  · exact .inr ⟨h, by simp [progress, h]⟩

end Sys2Proof.Machine
end

