-- ==== Sys2Proof/Laws/Response.lean ====
section
/-! SUPPORT. The response word read back field by field, and what the phase check answers. -/

namespace Sys2Proof.Machine

open Sys2Proof

@[simp] theorem rspErr_responseWord (e : Option Err) (b m : Bool) (k : BitVec 3) :
    rspErr (responseWord e b m k) = errCode e := by
  revert k; cases e with
  | none => revert b m; decide
  | some e => revert b m; cases e <;> decide

@[simp] theorem rspBit_responseWord (e : Option Err) (b m : Bool) (k : BitVec 3) :
    rspBit (responseWord e b m k) = b := by
  revert k; cases e with
  | none => revert b m; decide
  | some e => revert b m; cases e <;> decide

@[simp] theorem rspMaj_responseWord (e : Option Err) (b m : Bool) (k : BitVec 3) :
    rspMaj (responseWord e b m k) = m := by
  revert k; cases e with
  | none => revert b m; decide
  | some e => revert b m; cases e <;> decide

@[simp] theorem rspClocked_responseWord (e : Option Err) (b m : Bool) (k : BitVec 3) :
    rspClocked (responseWord e b m k) = k := by
  revert k; cases e with
  | none => revert b m; decide
  | some e => revert b m; cases e <;> decide

/-- No error has the success code. -/
theorem errCode_some_ne_zero (e : Err) : errCode (some e) ≠ 0#3 := by cases e <;> decide

/-- A failed command's response is its code shifted left by five (60_exceptions.md R170). -/
theorem responseWord_fail (e : Err) :
    responseWord (some e) false false 0#3 = (errCode (some e)).zeroExtend 8 <<< 5 := by
  cases e <;> decide

/-- Failing is answering with the code's word and changing nothing else. -/
theorem failWith_eq_answered (e : Err) (s : State) :
    failWith e s = answered s (responseWord (some e) false false 0#3) := rfl

/-- The three outcomes of the phase check of 42_init_sequencer.md R102. -/
theorem phaseError_cases (first last p : Phase) :
    (phaseRank p < phaseRank first ∧ phaseError first last p = some .invalidPhaseTransition) ∨
    (phaseRank first ≤ phaseRank p ∧ phaseRank last < phaseRank p ∧
      phaseError first last p = some .phaseOverrun) ∨
    (phaseRank first ≤ phaseRank p ∧ phaseRank p ≤ phaseRank last ∧ phaseError first last p = none) := by
  unfold phaseError
  by_cases h1 : phaseRank p < phaseRank first
  · exact .inl ⟨h1, if_pos h1⟩
  · by_cases h2 : phaseRank last < phaseRank p
    · exact .inr (.inl ⟨by omega, h2, by simp [h1, h2]⟩)
    · exact .inr (.inr ⟨by omega, by omega, by simp [h1, h2]⟩)

/-- `MIXKEY` may execute exactly in its two home phases (R102). -/
theorem phaseError_mixkey_eq_none (p : Phase) :
    phaseError .zeroed .keyMixing p = none ↔ p = .zeroed ∨ p = .keyMixing := by
  cases p <;> decide

/-- A command with one home phase may execute exactly there (R102). -/
theorem phaseError_single_eq_none (h p : Phase) : phaseError h h p = none ↔ p = h := by
  cases p <;> cases h <;> decide

/-- A command with a phase check either fails with the check's error or runs its body. -/
theorem gated_cases (first last : Phase) (body : State → State) (s : State) :
    (∃ e, phaseError first last s.phase = some e ∧ gated first last body s = failWith e s) ∨
    (phaseError first last s.phase = none ∧ gated first last body s = body s) := by
  unfold gated
  cases h : phaseError first last s.phase with
  | some e => exact .inl ⟨e, rfl, rfl⟩
  | none => exact .inr ⟨rfl, rfl⟩

/-- Inside the home phases the body runs. -/
theorem gated_of_none {first last : Phase} {body : State → State} {s : State}
    (h : phaseError first last s.phase = none) : gated first last body s = body s := by
  unfold gated; rw [h]

/-- Outside them the command fails. -/
theorem gated_of_some {first last : Phase} {body : State → State} {s : State} {e : Err}
    (h : phaseError first last s.phase = some e) : gated first last body s = failWith e s := by
  unfold gated; rw [h]

/-- An accessor's outcome is a failure or the bit read. -/
theorem observe_eq_answered (r : Except Err Bool) (s : State) :
    observe r s = answered s (match r with
      | .error e => responseWord (some e) false false 0#3
      | .ok b => responseWord none b false 0#3) := by
  cases r <;> rfl

end Sys2Proof.Machine
end

