-- ==== Sys2Proof/Laws/Exec.lean ====
section
/-! SUPPORT. What each command can do, said once: an equation or a case list for every meaning, and for one step. -/

namespace Sys2Proof.Machine

open Sys2Proof

@[simp] theorem exec_zero (k f : Len) (s : State) : exec (.zero k f) s = .next (zeroCmd k f s) := rfl
@[simp] theorem exec_mixkey (b : Bool) (s : State) : exec (.mixkey b) s = .next (mixkeyCmd Config.std b s) := rfl
@[simp] theorem exec_mixframe (b : Bool) (s : State) :
    exec (.mixframe b) s = .next (mixframeCmd Config.std b s) := rfl
@[simp] theorem exec_discard (s : State) : exec .discard s = .next (discardCmd Config.std s) := rfl
@[simp] theorem exec_nextbit (s : State) : exec .nextbit s = .next (nextbitCmd Config.std s) := rfl
@[simp] theorem exec_read (sel : BitVec 2) (idx : BitVec 5) (s : State) :
    exec (.read sel idx) s = .next (readCmd sel idx s) := rfl
@[simp] theorem exec_rdclk (sel : BitVec 2) (s : State) :
    exec (.rdclk sel) s = .next (rdclkCmd Config.std sel s) := rfl
@[simp] theorem exec_rdout (sel : BitVec 2) (s : State) :
    exec (.rdout sel) s = .next (rdoutCmd Config.std sel s) := rfl
@[simp] theorem exec_runall (key frame : List Bool) (s : State) :
    exec (.runall key frame) s = execRunall key frame s := rfl

/-- `ZERO` fails on an empty length, else starts an episode (42_init_sequencer.md R101). -/
theorem zeroCmd_cases (k f : Len) (s : State) :
    ((k = 0#8 ∨ f = 0#8) ∧ zeroCmd k f s = failWith .emptyInput s) ∨
    (k ≠ 0#8 ∧ f ≠ 0#8 ∧ zeroCmd k f s =
      { s with r1 := 0#19, r2 := 0#22, r3 := 0#23, phase := .zeroed, count := 0#8, klen := k, flen := f,
               rspValid := true, rspWord := responseWord none false false 0#3 }) := by
  by_cases h : k = 0#8 ∨ f = 0#8
  · exact .inl ⟨h, by simp [zeroCmd, h]⟩
  · refine .inr ⟨fun hk => h (.inl hk), fun hf => h (.inr hf), ?_⟩
    simp only [zeroCmd, if_neg h]
    rfl

/-- `MIXKEY` fails on its phase check, else mixes and counts (R103). -/
theorem mixkeyCmd_cases (c : Config) (b : Bool) (s : State) :
    (∃ e, phaseError .zeroed .keyMixing s.phase = some e ∧ mixkeyCmd c b s = failWith e s) ∨
    (phaseError .zeroed .keyMixing s.phase = none ∧ mixkeyCmd c b s =
      respond false false 0b111#3 (progress .keyMixing .frameMixing s.klen.toNat (mixAll c b s))) :=
  gated_cases _ _ _ s

/-- `MIXFRAME` fails on its phase check, else mixes and counts (R105). -/
theorem mixframeCmd_cases (c : Config) (b : Bool) (s : State) :
    (∃ e, phaseError .frameMixing .frameMixing s.phase = some e ∧ mixframeCmd c b s = failWith e s) ∨
    (phaseError .frameMixing .frameMixing s.phase = none ∧ mixframeCmd c b s =
      respond false false 0b111#3 (progress .frameMixing .discardClocking s.flen.toNat (mixAll c b s))) :=
  gated_cases _ _ _ s

/-- `DISCARD` fails on its phase check, else performs a majority cycle and counts (R107). -/
theorem discardCmd_cases (c : Config) (s : State) :
    (∃ e, phaseError .discardClocking .discardClocking s.phase = some e ∧ discardCmd c s = failWith e s) ∨
    (phaseError .discardClocking .discardClocking s.phase = none ∧ discardCmd c s =
      respond false (decideAndClock c s).majority (decideAndClock c s).clocked
        (progress .discardClocking .ready c.ndisc (decideAndClock c s).after)) :=
  gated_cases _ _ _ s

/-- `NEXTBIT` fails on its phase check, else performs a majority cycle and reports the output XOR after it (R130). -/
theorem nextbitCmd_cases (c : Config) (s : State) :
    (∃ e, phaseError .ready .ready s.phase = some e ∧ nextbitCmd c s = failWith e s) ∨
    (phaseError .ready .ready s.phase = none ∧ nextbitCmd c s =
      respond (outputXor c (decideAndClock c s).after) (decideAndClock c s).majority (decideAndClock c s).clocked
        (decideAndClock c s).after) :=
  gated_cases _ _ _ s

/-- An accessor command answers and changes nothing else (R140 to R142). -/
theorem observeSelected_eq_answered (sel : BitVec 2) (acc : RegName → Except Err Bool) (s : State) :
    ∃ w, observeSelected sel acc s = answered s w := by
  unfold observeSelected
  cases selReg sel with
  | none => exact ⟨_, failWith_eq_answered _ s⟩
  | some k => exact ⟨_, observe_eq_answered _ s⟩

/-- Both lengths can be declared exactly where neither exceeds 255 (R108). -/
theorem declarable_iff (key frame : List Bool) :
    declarable key frame = true ↔ key.length ≤ 255 ∧ frame.length ≤ 255 := by
  simp [declarable]

/-- The length of a sequence that can be declared is the operand's value. -/
theorem declaredLen_toNat {bits : List Bool} (h : bits.length ≤ 255) : (declaredLen bits).toNat = bits.length := by
  simp only [declaredLen, BitVec.toNat_ofNat]
  omega

/-- The bounds of `NDISC` in an instance that meets R10. -/
theorem ndisc_bounds {c : Config} (h : c.valid = true) : 1 ≤ c.ndisc ∧ c.ndisc ≤ 255 := by
  simp only [Config.valid, Bool.and_eq_true, decide_eq_true_eq] at h
  exact ⟨h.1.2, h.2⟩

/-- `RUNALL` is one transition where both sequences are non-empty and their lengths can be declared
(R108). -/
theorem execRunall_of_declarable {key frame : List Bool} (hk : key ≠ []) (hf : frame ≠ [])
    (hd : declarable key frame = true) (s : State) :
    execRunall key frame s = .next (reportDriver .completed (runallCmd Config.std key frame s)) := by
  simp [execRunall, hk, hf, hd]

/-- `RUNALL` with an empty sequence is a period without a command, and the driver's report (R108). -/
theorem execRunall_of_empty {key frame : List Bool} (h : key = [] ∨ frame = []) (s : State) :
    execRunall key frame s = .next (reportDriver (.failed .emptyInput) (idlePeriod s)) := by
  rw [execRunall, if_pos (by simpa using h)]

/-- Everything `RUNALL` can do where it answers a next state (R108). -/
theorem execRunall_cases {key frame : List Bool} {s t : State} (h : execRunall key frame s = .next t) :
    ((key = [] ∨ frame = []) ∧ t = reportDriver (.failed .emptyInput) (idlePeriod s)) ∨
    (key ≠ [] ∧ frame ≠ [] ∧ declarable key frame = true ∧
      t = reportDriver .completed (runallCmd Config.std key frame s)) := by
  by_cases he : key = [] ∨ frame = []
  · refine .inl ⟨he, ?_⟩
    rw [execRunall_of_empty he] at h
    exact (Host.Outcome.next.inj h).symm
  · have hk : key ≠ [] := fun hh => he (.inl hh)
    have hf : frame ≠ [] := fun hh => he (.inr hh)
    cases hd : declarable key frame with
    | true =>
      rw [execRunall_of_declarable hk hf hd] at h
      exact .inr ⟨hk, hf, rfl, (Host.Outcome.next.inj h).symm⟩
    | false =>
      rw [execRunall, if_neg (by simp [hk, hf]), if_neg (by simp [hd])] at h
      cases h

/-- The driver's report is no part of the engine's state. -/
theorem sameEngine_reportDriver {s t : State} (h : SameEngine s t) (r : DriverReport) :
    SameEngine s (reportDriver r t) := h

/-- The invariants do not read the driver's report. -/
theorem engineInv_reportDriver {s : State} (h : EngineInv s) (r : DriverReport) : EngineInv (reportDriver r s) :=
  ⟨h.count_zero, h.count_key, h.count_frame, h.count_discard, h.lengths_pos, h.zeroed_regs⟩

/-- The discard clocks one by one. -/
theorem discardTimes_succ (c : Config) (n : Nat) (s : State) :
    discardTimes c (n + 1) s = discardTimes c n (discardCmd c s) := rfl

/-- The discard clocks one by one, the last one apart. -/
theorem discardTimes_succ_last (c : Config) (n : Nat) (s : State) :
    discardTimes c (n + 1) s = discardCmd c (discardTimes c n s) := by
  induction n generalizing s with
  | zero => rfl
  | succ n ih => rw [discardTimes_succ, ih, ← discardTimes_succ]

/-- What one step does with an empty input list. -/
theorem step_of_no_input {s : State} (h : s.inputs = []) : step s = .next (idlePeriod s) := by
  simp [step, nextEvent, h]

/-- What one step does with the next input, by the event it is. -/
theorem step_of_input {s : State} {x : HostInput} {rest : List HostInput} (h : s.inputs = x :: rest) :
    step s = match eventOf x with
      | .idle => .next (idlePeriod { s with inputs := rest })
      | .reset => .next (hardwareReset { s with inputs := rest })
      | .command i => exec i { s with inputs := rest } := by
  simp only [step, nextEvent, h]
  cases eventOf x <;> rfl

/-- Everything a step can do, once: it idles, resets, or executes a command, with the input consumed. -/
theorem step_cases {s t : State} (h : step s = .next t) :
    t = idlePeriod { s with inputs := s.inputs.tail } ∨ t = hardwareReset { s with inputs := s.inputs.tail } ∨
      ∃ i, exec i { s with inputs := s.inputs.tail } = .next t := by
  cases hx : s.inputs with
  | nil =>
    rw [step_of_no_input hx] at h
    cases h
    left
    cases s
    simp_all
  | cons x rest =>
    rw [step_of_input hx] at h
    cases he : eventOf x with
    | idle => rw [he] at h; cases h; exact .inl rfl
    | reset => rw [he] at h; cases h; exact .inr (.inl rfl)
    | command i => rw [he] at h; exact .inr (.inr ⟨i, h⟩)

@[simp] theorem runSeq_nil (s : State) : runSeq [] s = .next s := rfl

theorem runSeq_cons_next {i : Instr} {s t : State} (h : exec i s = .next t) (rest : List Instr) :
    runSeq (i :: rest) s = runSeq rest t := by
  simp [runSeq, h]

/-- A sequence that reaches `t` goes on from `t`. -/
theorem runSeq_append_next {is : List Instr} {s t : State} (h : runSeq is s = .next t) (js : List Instr) :
    runSeq (is ++ js) s = runSeq js t := by
  induction is generalizing s with
  | nil => cases h; rfl
  | cons i is ih =>
    simp only [runSeq, List.cons_append] at h ⊢
    cases hi : exec i s with
    | next u => rw [hi] at h; exact ih h
    | fault f => cases f
    | refused r => rw [hi] at h; cases h

@[simp] theorem runSteps_zero (s : State) : runSteps 0 s = .next s := rfl

/-- A run that begins with a step to `t` goes on from `t`. -/
theorem runSteps_succ_of_step {s t : State} (h : step s = .next t) (n : Nat) :
    runSteps (n + 1) s = runSteps n t := by
  simp only [runSteps, h]

/-- A run that reaches `t` goes on from `t`. -/
theorem runSteps_add_of_next {m : Nat} {s t : State} (h : runSteps m s = .next t) (n : Nat) :
    runSteps (m + n) s = runSteps n t := by
  induction m generalizing s with
  | zero => cases h; rw [Nat.zero_add]
  | succ m ih =>
    rw [Nat.add_right_comm]
    simp only [runSteps] at h ⊢
    cases hs : step s with
    | next u => rw [hs] at h; exact ih h
    | fault f => cases f
    | refused r => rw [hs] at h; cases h

/-- `runSteps` is the host's run of the machine. -/
theorem runSteps_eq_coreRun (n : Nat) (s : State) : runSteps n s = Host.Core.run Sys2Proof.core n s := by
  induction n generalizing s with
  | zero => rfl
  | succ n ih =>
    cases hs : step s with
    | next t =>
      have hc : Sys2Proof.core.step s = .next t := hs
      simp only [runSteps, Host.Core.run, hs, hc]
      exact ih t
    | fault f => cases f
    | refused r =>
      have hc : Sys2Proof.core.step s = .refused r := hs
      simp only [runSteps, Host.Core.run, hs, hc]
      rfl

end Sys2Proof.Machine
end

