-- ==== Sys2Proof/Laws/PerInstr.lean ====
section
/-! SUPPORT. Per-constructor families: laws of the commands as syntax. -/

namespace Sys2Proof.Laws.WordCount

open Sys2Proof

/-- How many words a command is: one for an engine command; `1 + klen + flen + NDISC` for a `RUNALL` the driver
issues (42_init_sequencer.md R109), none for one it does not issue. -/
def Statement (i : Instr) : Prop :=
  (i.isCore = true → (encode i).length = 1) ∧
  ∀ key frame, i = .runall key frame →
    (encode i).length = if key = [] ∨ frame = [] ∨ i.wf = false then 0
      else 1 + key.length + frame.length + Config.std.ndisc

theorem zero (klen flen : Len) : Statement (.zero klen flen) := ⟨fun _ => rfl, fun _ _ h => nomatch h⟩
theorem mixkey (b : Bool) : Statement (.mixkey b) := ⟨fun _ => rfl, fun _ _ h => nomatch h⟩
theorem mixframe (b : Bool) : Statement (.mixframe b) := ⟨fun _ => rfl, fun _ _ h => nomatch h⟩
theorem discard : Statement .discard := ⟨fun _ => rfl, fun _ _ h => nomatch h⟩
theorem nextbit : Statement .nextbit := ⟨fun _ => rfl, fun _ _ h => nomatch h⟩
theorem read (sel : BitVec 2) (idx : BitVec 5) : Statement (.read sel idx) := ⟨fun _ => rfl, fun _ _ h => nomatch h⟩
theorem rdclk (sel : BitVec 2) : Statement (.rdclk sel) := ⟨fun _ => rfl, fun _ _ h => nomatch h⟩
theorem rdout (sel : BitVec 2) : Statement (.rdout sel) := ⟨fun _ => rfl, fun _ _ h => nomatch h⟩

/-- Every command of an expansion is an engine command, so it keeps its length when encoded. -/
theorem length_filterMap_encodeWord (is : List Instr) (h : ∀ i ∈ is, i.isCore = true) :
    (is.filterMap encodeWord).length = is.length := by
  induction is with
  | nil => rfl
  | cons i is ih =>
    have hi : ∃ w, encodeWord i = some w := by
      have := h i (by simp)
      cases i <;> first | exact ⟨_, rfl⟩ | cases this
    obtain ⟨w, hw⟩ := hi
    rw [List.filterMap_cons_some hw, List.length_cons, List.length_cons,
      ih fun j hj => h j (List.mem_cons_of_mem _ hj)]

/-- The commands of a `RUNALL` are engine commands. -/
theorem isCore_of_mem_runallCommands {n : Nat} {key frame : List Bool} {i : Instr}
    (h : i ∈ runallCommands n key frame) : i.isCore = true := by
  simp only [runallCommands, List.mem_cons, List.mem_append, List.mem_map, List.mem_replicate] at h
  rcases h with rfl | (⟨b, -, rfl⟩ | ⟨b, -, rfl⟩) | ⟨-, rfl⟩ <;> rfl

theorem runall (key frame : List Bool) : Statement (.runall key frame) := by
  refine ⟨fun h => (nomatch h), fun k f h => ?_⟩
  cases h
  by_cases hd : key = [] ∨ frame = [] ∨ (Instr.runall key frame).wf = false
  · have : expand (.runall key frame) = [] := by
      rcases hd with rfl | rfl | hd
      · rfl
      · simp [expand]
      · have : declarable key frame = false := hd
        simp [expand, this]
    simp [encode, this, hd]
  · have hw : declarable key frame = true := by simpa [Instr.wf] using fun h => hd (.inr (.inr h))
    have hk : key ≠ [] := fun h => hd (.inl h)
    have hf : frame ≠ [] := fun h => hd (.inr (.inl h))
    have he : expand (.runall key frame) = runallCommands Config.std.ndisc key frame := by
      simp [expand, hw, hk, hf]
    rw [if_neg hd, encode, he, length_filterMap_encodeWord _ fun i hi => isCore_of_mem_runallCommands hi]
    simp [runallCommands]
    omega

end Sys2Proof.Laws.WordCount
end

