-- ==== Sys2Proof/Tests/Slice0.lean ====
section
/-! SUPPORT. The model's own tests: the WellFormed smoke, decode tests, one-step tests whose expected results are
the spec's worked examples and vectors, and a witness for every statement that has hypotheses. Registers are written
as the spec writes them, index 0 leftmost (00_scope.md R13): a row of digits is the reverse of the bit vector. -/

namespace Sys2Proof.Tests

open Sys2Proof Sys2Proof.Machine

/-- R1 from the spec's row of 19 digits. -/
abbrev row1 (r : BitVec 19) : BitVec 19 := r.reverse

/-- R2 from the spec's row of 22 digits. -/
abbrev row2 (r : BitVec 22) : BitVec 22 := r.reverse

/-- R3 from the spec's row of 23 digits. -/
abbrev row3 (r : BitVec 23) : BitVec 23 := r.reverse

/-- A small state with nothing pending. -/
def st (a : BitVec 19) (b : BitVec 22) (c : BitVec 23) (p : Phase) (count klen flen : Len) : State where
  r1 := row1 a
  r2 := row2 b
  r3 := row3 c
  phase := p
  count := count
  klen := klen
  flen := flen
  rspValid := false
  rspWord := 0#8
  inputs := []
  driverReport := .nothing
  draws := 0

/-- The outcome is the next state `t`. -/
def gives (o : Host.Outcome State Fault Refusal) (t : State) : Bool :=
  match o with
  | .next u => decide (u = t)
  | .fault _ => false
  | .refused _ => false

/-- The outcome is the refusal of a sequence that is too long. -/
def refusesTooLong (o : Host.Outcome State Fault Refusal) : Bool :=
  match o with
  | .refused .runallSequenceTooLong => true
  | _ => false

/-! ### Well-formedness: an ill-formed term for each check -/

theorem test_wf_refuses_long_key : (Instr.runall (List.replicate 256 true) [true]).wf = false := by
  simp only [Instr.wf, declarable, List.length_replicate]; rfl
theorem test_wf_refuses_long_frame : (Instr.runall [true] (List.replicate 256 true)).wf = false := by
  simp only [Instr.wf, declarable, List.length_replicate]; rfl
theorem test_wf_accepts_255 : (Instr.runall (List.replicate 255 true) (List.replicate 255 true)).wf = true := by
  simp only [Instr.wf, declarable, List.length_replicate]; rfl
theorem test_config_refuses_tap_outside : ({ Config.std with r1 := ⟨[19], 8, 18⟩ } : Config).valid = false := by decide
theorem test_config_refuses_repeated_tap :
    ({ Config.std with r2 := ⟨[20, 20], 10, 21⟩ } : Config).valid = false := by decide
theorem test_config_refuses_clock_outside :
    ({ Config.std with r3 := ⟨[7], 23, 22⟩ } : Config).valid = false := by decide
theorem test_config_refuses_output_outside :
    ({ Config.std with r1 := ⟨[18], 8, 19⟩ } : Config).valid = false := by decide
theorem test_config_refuses_no_discard : ({ Config.std with ndisc := 0 } : Config).valid = false := by decide
theorem test_config_refuses_many_discards : ({ Config.std with ndisc := 256 } : Config).valid = false := by decide

/-! ### Decoding: words written bit by bit from 30_encoding.md R53, R54; 95_test_vectors.md V36 -/

theorem test_decode_zero : decode 0b000_00000_01000000_00010110#24 = .zero 64#8 22#8 := by decide
theorem test_decode_mixkey : decode 0b001_00000000000000000000_1#24 = .mixkey true := by decide
theorem test_decode_mixframe : decode 0b010_00000000000000000000_1#24 = .mixframe true := by decide
theorem test_decode_discard : decode 0b011_000000000000000000000#24 = .discard := by decide
theorem test_decode_nextbit : decode 0b100_000000000000000000000#24 = .nextbit := by decide
theorem test_decode_read : decode 0b101_00000000000000_10_10110#24 = .read 2#2 22#5 := by decide
theorem test_decode_rdclk : decode 0b110_00000000000000_01_11111#24 = .rdclk 1#2 := by decide
theorem test_decode_rdout : decode 0b111_00000000000000_11_00000#24 = .rdout 3#2 := by decide
theorem test_decode_unused_bits : decode 0x1F4016#24 = .zero 64#8 22#8 ∧ decode 0x3FFFFE#24 = .mixkey false := by decide
theorem test_decodeTableWord : decodeTableWord 24 0xA00036 = some (.read 1#2 22#5) ∧
    decodeTableWord 32 0 = none ∧ decodeTableWord 16 0x0302 = none ∧ decodeTableWord 23 0 = none := by
  decide
theorem test_encode : encode (.zero 64#8 22#8) = [0x004016#24] ∧ encode (.rdout 2#2) = [0xE00040#24] := by decide
/-- The expansion of 30_encoding.md R63, its first six words (95_test_vectors.md P2). -/
theorem test_encode_runall : (encode (.runall [true, false, true] [true, true])).take 7 =
    [0x000302#24, 0x200001#24, 0x200000#24, 0x200001#24, 0x400001#24, 0x400001#24, 0x600000#24] := by decide

/-- A 16-bit string is not presented (30_encoding.md R52). -/
theorem test_withFetchWord_other_length : State.reset.withFetchWord 16 0x0302 = State.reset := rfl
/-- `OnlyCommandWordsDecode`, at the two lengths beside 24. -/
theorem test_witness_OnlyCommandWordsDecode : 23 ≠ 24 ∧ 25 ≠ 24 ∧ Instr.discard.isCore = true := by decide

/-! ### Primitives: 95_test_vectors.md V10 to V20 -/

/-- V13b, from bits 13 and 18. -/
theorem test_regClock : (regClock Config.std .r1 (some true)
      (st 0b0000000000000100001#19 0#22 0#23 .ready 0#8 1#8 1#8)).1 = true ∧
    (regClock Config.std .r1 (some true) (st 0b0000000000000100001#19 0#22 0#23 .ready 0#8 1#8 1#8)).2.r1 =
      row1 0b1000000000000010000#19 := by decide

/-- V11e. -/
theorem test_fb : fb Config.std .r1 none (st 0b0000000000000100110#19 0#22 0#23 .ready 0#8 1#8 1#8) = true := by decide

/-! ### One step: the spec's worked examples -/

/-- 42_init_sequencer.md R101, as the first command after reset. -/
theorem test_zero : gives (step (State.reset.withFetchWord 24 0x004016))
    { st 0#19 0#22 0#23 .zeroed 0#8 64#8 22#8 with rspValid := true } = true := by decide

/-- V34d. -/
theorem test_zero_empty : gives (exec (.zero 0#8 5#8) (st 1#19 2#22 3#23 .ready 0#8 1#8 1#8))
    { st 1#19 2#22 3#23 .ready 0#8 1#8 1#8 with rspValid := true, rspWord := 0x60#8 } = true := by decide

/-- V30, key bit 19. -/
theorem test_mixkey : gives
    (exec (.mixkey true) (st 0b1000010101010101010#19 0b0101010101010101010000#22 0b01000000000101010100000#23
      .keyMixing 19#8 64#8 22#8))
    { st 0b1100001010101010101#19 0b1010101010101010101000#22 0b10100000000010101010000#23 .keyMixing 20#8 64#8 22#8
      with rspValid := true, rspWord := 0x07#8 } = true := by decide

/-- V34a: with `KLEN` = 1 the phase goes from `Zeroed` straight to `FrameMixing`. -/
theorem test_mixkey_klen_one : gives (exec (.mixkey true) (st 0#19 0#22 0#23 .zeroed 0#8 1#8 1#8))
    { st 0b1000000000000000000#19 0b1000000000000000000000#22 0b10000000000000000000000#23 .frameMixing 0#8 1#8 1#8
      with rspValid := true, rspWord := 0x07#8 } = true := by decide

/-- R105's example. -/
theorem test_mixframe : gives
    (exec (.mixframe true) (st 0b0000000101111000110#19 0b0101010101010101010111#22 0b10101010010010001000100#23
      .frameMixing 0#8 64#8 22#8))
    { st 0b1000000010111100011#19 0b1010101010101010101011#22 0b01010101001001000100010#23 .frameMixing 1#8 64#8 22#8
      with rspValid := true, rspWord := 0x07#8 } = true := by decide

/-- V34c: a surplus `MIXFRAME`. -/
theorem test_mixframe_overrun : gives (exec (.mixframe false) (st 5#19 6#22 7#23 .discardClocking 0#8 1#8 1#8))
    { st 5#19 6#22 7#23 .discardClocking 0#8 1#8 1#8 with rspValid := true, rspWord := 0x40#8 } = true := by decide

/-- 41_clock_controller.md R95 (a). -/
theorem test_discard : gives
    (exec .discard (st 0b0000110111111110111#19 0b0011001100110011001111#22 0b11101100100010111011101#23
      .discardClocking 0#8 64#8 22#8))
    { st 0b0000011011111111011#19 0b0001100110011001100111#22 0b11101100100010111011101#23 .discardClocking 1#8 64#8
      22#8 with rspValid := true, rspWord := 0x0B#8 } = true := by decide

/-- The `NDISC`-th discard clock enters `Ready`; the registers are R95 (b). -/
theorem test_discard_last : gives
    (exec .discard (st 0b0000011011111111011#19 0b0001100110011001100111#22 0b11101100100010111011101#23
      .discardClocking 99#8 64#8 22#8))
    { st 0b0000011011111111011#19 0b0000110011001100110011#22 0b01110110010001011101110#23 .ready 0#8 64#8 22#8
      with rspValid := true, rspWord := 0x06#8 } = true := by decide

/-- 43_keystream_generator.md R130's example. -/
theorem test_nextbit : gives
    (exec .nextbit (st 0b0010001111100100100#19 0b0000000000011001000000#22 0b11110000110110000110011#23
      .ready 0#8 64#8 22#8))
    { st 0b0010001111100100100#19 0b0000000000001100100000#22 0b01111000011011000011001#23 .ready 0#8 64#8 22#8
      with rspValid := true, rspWord := 0x16#8 } = true := by decide

/-- R135, step 3: the output bit that the shift brings counts. -/
theorem test_nextbit_post_shift : gives
    (exec .nextbit (st 0b0001000111110010010#19 0b0000000000001100100000#22 0b10111100001101100001100#23
      .ready 0#8 64#8 22#8))
    { st 0b1000100011111001001#19 0b0000000000001100100000#22 0b11011110000110110000110#23 .ready 0#8 64#8 22#8
      with rspValid := true, rspWord := 0x1D#8 } = true := by decide

/-- The state of 95_test_vectors.md V35. -/
def v35 : State :=
  st 0b0001000011111000000#19 0b0000000000000001000100#22 0b11110110000010110111111#23 .ready 0#8 2#8 1#8

/-- V35, `READ R3, 22` and `READ R3, 23`. -/
theorem test_read : gives (step (v35.withFetchWord 24 0xA00056)) { v35 with rspValid := true, rspWord := 0x10#8 } = true ∧
    gives (step (v35.withFetchWord 24 0xA00057)) { v35 with rspValid := true, rspWord := 0x80#8 } = true := by decide

/-- V35, `RDCLK R1` and the reserved select. -/
theorem test_rdclk : gives (step (v35.withFetchWord 24 0xC00000)) { v35 with rspValid := true, rspWord := 0x10#8 } = true ∧
    gives (step (v35.withFetchWord 24 0xC00060)) { v35 with rspValid := true, rspWord := 0xA0#8 } = true := by decide

/-- V35, `RDOUT R3` and the reserved select. -/
theorem test_rdout : gives (step (v35.withFetchWord 24 0xE00040)) { v35 with rspValid := true, rspWord := 0x10#8 } = true ∧
    gives (step (v35.withFetchWord 24 0xE00060)) { v35 with rspValid := true, rspWord := 0xA0#8 } = true := by decide

/-- 42_init_sequencer.md R108: with an empty sequence the driver fails and the port presents no response (30_encoding.md
R64), also where one was presented before; a sequence of 256 bits is refused. -/
theorem test_runall_stops : gives (exec (.runall [] [true]) { v35 with rspValid := true })
    { v35 with driverReport := .failed .emptyInput } = true ∧
    refusesTooLong (exec (.runall [true] (List.replicate 256 true)) v35) = true :=
  ⟨by decide, by
    simp only [exec, execRunall, declarable, List.length_replicate]; rfl⟩

/-! ### Witnesses: a state and operands that meet the hypotheses of each statement, clause by clause -/

/-- A state whose host presents `x` next. -/
def presenting (x : HostInput) : State := { v35 with inputs := [x] }

theorem test_witness_StepRunsThePresentedCommand :
    (presenting (.period false true 0x800000#24)).inputs = .period false true 0x800000#24 :: [] ∧
    (presenting (.runAll [true] [false])).inputs = .runAll [true] [false] :: [] := by decide
theorem test_witness_HandshakeOfOnePeriod :
    (presenting (.period false true 0xFFFFFF#24)).inputs = .period false true 0xFFFFFF#24 :: [] ∧
    (presenting (.period false false 0#24)).inputs = .period false false 0#24 :: [] ∧ v35.inputs = [] ∧
    (presenting (.period true true 0#24)).inputs = .period true true 0#24 :: [] := by decide
theorem test_witness_HardwareResetPeriod :
    (presenting (.period true true 0x004016#24)).inputs = .period true true 0x004016#24 :: [] := by decide
theorem test_witness_ResetDrawsFreeValues :
    (presenting (.period true false 0#24)).inputs = .period true false 0#24 :: [] := by decide
theorem test_witness_OutputPortsShowTheState :
    (presenting (.period false false 0#24)).inputs = .period false false 0#24 :: [] ∧ v35.inputs = [] ∧ (18 < 19 ∧ 21 < 22 ∧ 22 < 23) := by
  decide
theorem test_witness_StateAfterReset (b : Bool) : Instr.nextbit = .mixkey b ∨ Instr.nextbit = .mixframe b ∨
    Instr.nextbit = .discard ∨ Instr.nextbit = .nextbit := .inr (.inr (.inr rfl))
theorem test_witness_StateAfterReset_other : (Instr.zero 1#8 1#8).isCore = true ∧ ∀ (sel : BitVec 2) (idx : BitVec 5),
    Instr.zero 1#8 1#8 ≠ .read sel idx ∧ Instr.zero 1#8 1#8 ≠ .rdclk sel ∧ Instr.zero 1#8 1#8 ≠ .rdout sel := by decide

/-- A state that meets the invariants at the edge of `KeyMixing`. -/
theorem test_inv_keyMixing : EngineInv (st 1#19 1#22 1#23 .keyMixing 254#8 255#8 1#8) := by constructor <;> decide
theorem test_inv_zeroed : EngineInv (st 0#19 0#22 0#23 .zeroed 0#8 1#8 1#8) := by constructor <;> decide
theorem test_inv_frameMixing : EngineInv (st 1#19 1#22 1#23 .frameMixing 0#8 1#8 1#8) := by constructor <;> decide
theorem test_inv_frameMixing_last : EngineInv (st 1#19 1#22 1#23 .frameMixing 254#8 1#8 255#8) := by
  constructor <;> decide
theorem test_inv_discardClocking : EngineInv (st 1#19 1#22 1#23 .discardClocking 99#8 1#8 1#8) := by
  constructor <;> decide

/-- `StepKeepsInvariant`: an invariant state that steps. -/
theorem test_witness_StepKeepsInvariant : EngineInv v35 ∧ ∃ t, step v35 = .next t :=
  ⟨by constructor <;> decide, _, rfl⟩
/-- `IdleEngineHoldsItsState`, `IdlePeriodsKeepTheResponseWord`. -/
theorem test_witness_IdleEngineHoldsItsState : v35.inputs = [] ∧
    [3#24, 4#24] ≠ [] ∧ ({ v35 with inputs := [.period false false 3#24, .period false false 4#24] } : State).inputs =
      [3#24, 4#24].map (.period false false) ++ [] := by decide
theorem test_witness_EngineCommandsDecodeAsEncoded : (Instr.zero 255#8 255#8).isCore = true ∧
    (Instr.read 3#2 31#5).isCore = true := by decide
theorem test_witness_RunallWordsDecodeToItsCommands : [true] ≠ [] ∧ List.replicate 255 false ≠ [] ∧
    (Instr.runall [true] (List.replicate 255 false)).wf = true :=
  ⟨List.cons_ne_nil _ _, List.cons_ne_nil _ _, by
    simp only [Instr.wf, declarable, List.length_replicate]; rfl⟩
theorem test_witness_UnusedBitsAreIgnored :
    0x1F4016#24 &&& usedBits 0x1F4016#24 = 0x004016#24 &&& usedBits 0x004016#24 := by decide
theorem test_witness_EveryCommandWordHasAnOutcome : selReg 0#2 = some .r1 ∧ RegName.r1.len ≤ (19#5).toNat ∧
    selReg 2#2 = some .r3 ∧ RegName.r3.len ≤ (23#5).toNat := by decide
theorem test_witness_register_indices : (18 < RegName.r1.len ∧ 21 < RegName.r2.len ∧ 22 < RegName.r3.len) ∧
    (1 ≤ 18 ∧ RegName.r1.len ≤ 19) ∧ RegName.r2 ≠ RegName.r1 := by decide

/-- `ClockingIsLinear` and `MixingASequenceIsLinear`: 1 XOR 3 is 2 in every register. -/
theorem test_witness_linear : RegistersXor { v35 with r1 := 2#19, r2 := 2#22, r3 := 2#23 }
    { v35 with r1 := 1#19, r2 := 1#22, r3 := 1#23 } { v35 with r1 := 3#19, r2 := 3#22, r3 := 3#23 } ∧
    [true, false].length = [false, false].length := by unfold RegistersXor; decide
theorem test_witness_RegClockShiftsInTheFeedback : ∀ i, regBit .r1 i { v35 with r2 := 0#22 } = regBit .r1 i v35 :=
  fun _ => rfl
theorem test_witness_ZeroStartsAnEpisode : (1#8 : Len) ≠ 0#8 ∧ (255#8 : Len) ≠ 0#8 ∧
    ((0#8 : Len) = 0#8 ∨ (1#8 : Len) = 0#8) := by decide
theorem test_witness_opcode_clauses : (0x000000#24).extractLsb' 21 3 = 0b000#3 ∧
    (0x200000#24).extractLsb' 21 3 = 0b001#3 ∧ (0x400000#24).extractLsb' 21 3 = 0b010#3 ∧
    (0x600000#24).extractLsb' 21 3 = 0b011#3 ∧ (0x800000#24).extractLsb' 21 3 = 0b100#3 ∧
    (0xA00000#24).extractLsb' 21 3 = 0b101#3 ∧ (0xC00000#24).extractLsb' 21 3 = 0b110#3 ∧
    (0xFFFFFF#24).extractLsb' 21 3 = 0b111#3 := by decide

/-- `MixkeyMixesOneKeyBit`, the success clause at both ends of the count, and the two failing clauses. -/
theorem test_witness_MixkeyMixesOneKeyBit :
    (EngineInv (st 1#19 1#22 1#23 .keyMixing 254#8 255#8 1#8) ∧
      (st 1#19 1#22 1#23 .keyMixing 254#8 255#8 1#8).count.toNat + 1 = 255) ∧
    (EngineInv (st 0#19 0#22 0#23 .zeroed 0#8 1#8 1#8) ∧ (st 0#19 0#22 0#23 .zeroed 0#8 1#8 1#8).phase = .zeroed) ∧
    (st 0#19 0#22 0#23 .notStarted 0#8 0#8 0#8).phase = .notStarted ∧ v35.phase = .ready :=
  ⟨⟨test_inv_keyMixing, rfl⟩, ⟨test_inv_zeroed, rfl⟩, rfl, rfl⟩
theorem test_witness_MixframeMixesOneFrameBit :
    (EngineInv (st 1#19 1#22 1#23 .frameMixing 0#8 1#8 1#8) ∧
      (st 1#19 1#22 1#23 .frameMixing 0#8 1#8 1#8).phase = .frameMixing) ∧
    EngineInv (st 1#19 1#22 1#23 .frameMixing 254#8 1#8 255#8) ∧
    (st 0#19 0#22 0#23 .keyMixing 1#8 2#8 1#8).phase = .keyMixing ∧ v35.phase = .ready :=
  ⟨⟨test_inv_frameMixing, rfl⟩, test_inv_frameMixing_last, rfl, rfl⟩
theorem test_witness_DiscardClocksAndCounts :
    (st 1#19 1#22 1#23 .discardClocking 99#8 1#8 1#8).phase = .discardClocking ∧
    (st 1#19 1#22 1#23 .discardClocking 99#8 1#8 1#8).count.toNat + 1 = 100 ∧
    (st 1#19 1#22 1#23 .frameMixing 0#8 1#8 1#8).phase = .frameMixing ∧ v35.phase = .ready := by decide
/-- `NextbitMakesOneKeystreamBit`, `RdoutAnswersTheOutputBit`, `NextbitSingleCycleForm`. -/
theorem test_witness_ready : v35.phase = .ready ∧ (st 0#19 0#22 0#23 .discardClocking 0#8 1#8 1#8).phase ≠ .ready := by
  decide
theorem test_witness_ReadAnswersTheSelectedBit : (18#5).toNat < 19 ∧ 19 ≤ (19#5).toNat ∧ (21#5).toNat < 22 ∧
    22 ≤ (22#5).toNat ∧ (22#5).toNat < 23 ∧ 23 ≤ (23#5).toNat := by decide
theorem test_witness_PairsShareTheirRegisterTransformation :
    (st 5#19 6#22 7#23 .keyMixing 1#8 2#8 1#8).r1 = (st 5#19 6#22 7#23 .frameMixing 0#8 2#8 1#8).r1 ∧
    (st 5#19 6#22 7#23 .keyMixing 1#8 2#8 1#8).phase = .keyMixing ∧
    (st 5#19 6#22 7#23 .discardClocking 1#8 2#8 1#8).r3 = (st 5#19 6#22 7#23 .ready 0#8 2#8 1#8).r3 ∧
    (st 5#19 6#22 7#23 .discardClocking 1#8 2#8 1#8).phase = .discardClocking := by decide
/-- `RunallReportsEmptyInput`, `ResponseIsNeverReadBack`: the empty call, alone and as the next input. -/
theorem test_witness_RunallReportsEmptyInput : (([] : List Bool) = [] ∨ List.replicate 2 true = []) ∧
    (presenting (.runAll [] [true])).inputs = .runAll [] [true] :: [] ∧
    ∃ t, exec (.runall [] [true]) v35 = .next t := ⟨.inl rfl, rfl, _, rfl⟩
/-- `RunallIssuesTheSequence`: lengths 1 and 255, an empty sequence, and 256. -/
theorem test_witness_RunallIssuesTheSequence : ([true] ≠ [] ∧ List.replicate 255 true ≠ [] ∧ [true].length ≤ 255 ∧
    (List.replicate 255 true).length ≤ 255) ∧ (([] : List Bool) = [] ∨ [true] = []) ∧
    (255 < (List.replicate 256 true).length ∨ 255 < [true].length) :=
  ⟨⟨List.cons_ne_nil _ _, List.cons_ne_nil _ _, by decide, by rw [List.length_replicate]⟩, .inl rfl,
    .inl (by rw [List.length_replicate]; decide)⟩
/-- `RunallEqualsStepwise`, `RunallLeavesTheLastResponse`. -/
theorem test_witness_RunallEqualsStepwise :
    ({ v35 with inputs := issue (encode (.runall [true] [false])) ++ [.period true false 0#24] } : State).inputs =
      issue (encode (.runall [true] [false])) ++ [.period true false 0#24] := rfl
theorem test_witness_AfterZeroHistoryIsForgotten : (64#8 : Len) ≠ 0#8 ∧ (22#8 : Len) ≠ 0#8 ∧
    ∀ i ∈ [Instr.mixkey true, Instr.discard], i.isCore = true := by decide
theorem test_witness_AllZeroInputStaysZero : 1 ≤ 255 ∧ 255 ≤ 255 ∧ 1 ≤ 1 ∧ 1 ≤ 255 := by decide
/-- `KeyBitsAreCountedUntilKlen` at a full key. -/
theorem test_witness_KeyBitsAreCountedUntilKlen : EngineInv (st 0#19 0#22 0#23 .zeroed 0#8 1#8 1#8) ∧
    (st 0#19 0#22 0#23 .zeroed 0#8 1#8 1#8).phase = .zeroed ∧ 1 ≤ [true].length ∧
    [true].length ≤ (st 0#19 0#22 0#23 .zeroed 0#8 1#8 1#8).klen.toNat := ⟨test_inv_zeroed, by decide⟩
theorem test_witness_FrameBitsAreCountedUntilFlen : EngineInv (st 1#19 1#22 1#23 .frameMixing 0#8 1#8 1#8) ∧
    (st 1#19 1#22 1#23 .frameMixing 0#8 1#8 1#8).count = 0#8 ∧ 1 ≤ [true].length ∧
    [true].length ≤ (st 1#19 1#22 1#23 .frameMixing 0#8 1#8 1#8).flen.toNat := ⟨test_inv_frameMixing, by decide⟩
theorem test_witness_DiscardClocksAreCountedUntilNdisc : Config.std.valid = true ∧
    (st 1#19 1#22 1#23 .discardClocking 0#8 1#8 1#8).phase = .discardClocking ∧
    (st 1#19 1#22 1#23 .discardClocking 0#8 1#8 1#8).count = 0#8 ∧ 99 < Config.std.ndisc ∧ 100 = Config.std.ndisc := by
  decide
/-- `PhaseCheckOfHomePhases`: at home, too early, too late. -/
theorem test_witness_PhaseCheckOfHomePhases : homePhases (.mixkey true) ≠ [] ∧
    Phase.keyMixing ∈ homePhases (.mixkey true) ∧
    (Phase.notStarted ∉ homePhases (.mixkey true) ∧
      ∀ p ∈ homePhases (.mixkey true), phaseRank .notStarted < phaseRank p) ∧
    (Phase.frameMixing ∉ homePhases (.mixkey true) ∧
      ¬ ∀ p ∈ homePhases (.mixkey true), phaseRank .frameMixing < phaseRank p) := by decide
/-- A command that fails and one that succeeds: `FailedCommandChangesNothing`, `ErrorsEachCommandRaises`,
`ResponseFieldsOfEveryCommand`, `CommandsKeepTheHostsInputs`. -/
theorem test_witness_outcomes : (∃ t, exec (.rdclk 3#2) v35 = .next t ∧ rspErr t.rspWord ≠ 0#3) ∧
    (∃ t, exec (.rdclk 0#2) v35 = .next t ∧ rspErr t.rspWord = 0#3) :=
  ⟨⟨_, rfl, by decide⟩, _, rfl, by decide⟩
/-- `PhaseChangesOnlyAsListed` and `DeclaredLengthsWrittenOnlyByZero`. -/
theorem test_witness_PhaseChangesOnlyAsListed : EngineInv (st 1#19 1#22 1#23 .discardClocking 99#8 1#8 1#8) ∧
    Instr.discard.isCore = true ∧ ∃ t, exec .discard (st 1#19 1#22 1#23 .discardClocking 99#8 1#8 1#8) = .next t :=
  ⟨test_inv_discardClocking, rfl, _, rfl⟩
theorem test_witness_ObservationsChangeOnlyTheResponse : Instr.rdout 1#2 = .read 1#2 0#5 ∨
    Instr.rdout 1#2 = .rdclk 1#2 ∨ Instr.rdout 1#2 = .rdout 1#2 := by decide
/-- `ControlIgnoresRegisterContents`: two states that differ in the registers only. -/
theorem test_witness_ControlIgnoresRegisterContents :
    (st 1#19 2#22 3#23 .ready 0#8 1#8 1#8).phase = (st 0#19 0#22 0#23 .ready 0#8 1#8 1#8).phase ∧
    (st 1#19 2#22 3#23 .ready 0#8 1#8 1#8).count = (st 0#19 0#22 0#23 .ready 0#8 1#8 1#8).count ∧
    ∃ t, exec .nextbit (st 1#19 2#22 3#23 .ready 0#8 1#8 1#8) = .next t := ⟨by decide, by decide, _, rfl⟩

end Sys2Proof.Tests
end

section
/-! What an engine command does to the control state (`PHASE`, `COUNT`, `KLEN`, `FLEN`; 10_state.md section 2),
said once for every command, and the statements of 10_state.md that follow from it. -/

namespace Sys2Proof.Machine

open Sys2Proof

/-! ### Periods without a command -/

theorem step_of_reset_period {s : State} {v : Bool} {w : CmdWord} {rest : List HostInput}
    (h : s.inputs = .period true v w :: rest) : step s = .next (hardwareReset { s with inputs := rest }) :=
  step_of_input h

theorem step_of_unpresented_period {s : State} {w : CmdWord} {rest : List HostInput}
    (h : s.inputs = .period false false w :: rest) : step s = .next (idlePeriod { s with inputs := rest }) :=
  step_of_input h

/-! ### The control state after a command -/

/-- `t` holds the control state of `s`. -/
structure KeepsControl (s t : State) : Prop where
  phase : t.phase = s.phase
  count : t.count = s.count
  klen : t.klen = s.klen
  flen : t.flen = s.flen

/-- One step of phase `p` is counted from `s` to `t`: the last of `limit` enters `next` with `COUNT` 0, any other
leaves `t` in `p` with `COUNT` one higher (10_state.md R25). -/
inductive CountsStep (p next : Phase) (limit : Nat) (s t : State) : Prop where
  | last (hlast : s.count.toNat + 1 = limit) (phase : t.phase = next) (count : t.count = 0#8)
  | more (hmore : s.count.toNat + 1 ≠ limit) (phase : t.phase = p) (count : t.count = s.count + 1#8)

/-- What a successful engine command does to the control state: one case for each command, `RUNALL`, which the
engine does not execute, left out. -/
inductive SuccessControl (s t : State) : Instr → Prop where
  | zero {k f : Len} (hk : k ≠ 0#8) (hf : f ≠ 0#8) (phase : t.phase = .zeroed) (count : t.count = 0#8)
      (klen : t.klen = k) (flen : t.flen = f) : SuccessControl s t (.zero k f)
  | mixkey {b : Bool} (home : s.phase = .zeroed ∨ s.phase = .keyMixing)
      (counts : CountsStep .keyMixing .frameMixing s.klen.toNat s t) (klen : t.klen = s.klen)
      (flen : t.flen = s.flen) : SuccessControl s t (.mixkey b)
  | mixframe {b : Bool} (home : s.phase = .frameMixing)
      (counts : CountsStep .frameMixing .discardClocking s.flen.toNat s t) (klen : t.klen = s.klen)
      (flen : t.flen = s.flen) : SuccessControl s t (.mixframe b)
  | discard (home : s.phase = .discardClocking)
      (counts : CountsStep .discardClocking .ready Config.std.ndisc s t) (klen : t.klen = s.klen)
      (flen : t.flen = s.flen) : SuccessControl s t .discard
  | nextbit (keeps : KeepsControl s t) : SuccessControl s t .nextbit
  | read {sel : BitVec 2} {idx : BitVec 5} (keeps : KeepsControl s t) : SuccessControl s t (.read sel idx)
  | rdclk {sel : BitVec 2} (keeps : KeepsControl s t) : SuccessControl s t (.rdclk sel)
  | rdout {sel : BitVec 2} (keeps : KeepsControl s t) : SuccessControl s t (.rdout sel)

/-- The control state after a command, by the error field of its response: a failure changes nothing of it. -/
inductive ControlOutcome (i : Instr) (s t : State) : Prop where
  | failed (err : rspErr t.rspWord ≠ 0#3) (keeps : KeepsControl s t)
  | succeeded (err : rspErr t.rspWord = 0#3) (success : SuccessControl s t i)

/-- `progress` from a state that has the counter of `s`, followed by a response, counts one step from `s`. -/
theorem countsStep_respond_progress (p q : Phase) (n : Nat) (b m : Bool) (w : BitVec 3) {s u : State}
    (h : u.count = s.count) : CountsStep p q n s (respond b m w (progress p q n u)) := by
  unfold progress
  split
  next hlast => exact .last (h ▸ hlast) rfl rfl
  next hmore => exact .more (h ▸ hmore) rfl (by rw [respond_count, h])

theorem controlOutcome_failWith (i : Instr) (e : Err) (s : State) : ControlOutcome i s (failWith e s) :=
  .failed (by simpa using errCode_some_ne_zero e) ⟨rfl, rfl, rfl, rfl⟩

theorem rspErr_respond (b m : Bool) (w : BitVec 3) (s : State) : rspErr (respond b m w s).rspWord = 0#3 := by
  simp [errCode]

theorem zeroCmd_controlOutcome (k f : Len) (s : State) : ControlOutcome (.zero k f) s (zeroCmd k f s) := by
  obtain ⟨-, hz⟩ | ⟨hk, hf, hz⟩ := zeroCmd_cases k f s <;> rw [hz]
  · exact controlOutcome_failWith _ _ _
  · exact .succeeded (rspErr_responseWord ..) (.zero hk hf rfl rfl rfl rfl)

theorem mixkeyCmd_controlOutcome (b : Bool) (s : State) :
    ControlOutcome (.mixkey b) s (mixkeyCmd Config.std b s) := by
  obtain ⟨e, -, hm⟩ | ⟨hp, hm⟩ := mixkeyCmd_cases Config.std b s <;> rw [hm]
  · exact controlOutcome_failWith _ _ _
  · exact .succeeded (rspErr_respond ..) (.mixkey ((phaseError_mixkey_eq_none _).1 hp)
      (countsStep_respond_progress _ _ _ _ _ _ (mixAll_count ..)) (by simp) (by simp))

theorem mixframeCmd_controlOutcome (b : Bool) (s : State) :
    ControlOutcome (.mixframe b) s (mixframeCmd Config.std b s) := by
  obtain ⟨e, -, hm⟩ | ⟨hp, hm⟩ := mixframeCmd_cases Config.std b s <;> rw [hm]
  · exact controlOutcome_failWith _ _ _
  · exact .succeeded (rspErr_respond ..) (.mixframe ((phaseError_single_eq_none _ _).1 hp)
      (countsStep_respond_progress _ _ _ _ _ _ (mixAll_count ..)) (by simp) (by simp))

theorem discardCmd_controlOutcome (s : State) : ControlOutcome .discard s (discardCmd Config.std s) := by
  obtain ⟨e, -, hd⟩ | ⟨hp, hd⟩ := discardCmd_cases Config.std s <;> rw [hd]
  · exact controlOutcome_failWith _ _ _
  · exact .succeeded (rspErr_respond ..) (.discard ((phaseError_single_eq_none _ _).1 hp)
      (countsStep_respond_progress _ _ _ _ _ _ (decideAndClock_after_count ..)) (by simp) (by simp))

theorem nextbitCmd_controlOutcome (s : State) : ControlOutcome .nextbit s (nextbitCmd Config.std s) := by
  obtain ⟨e, -, hn⟩ | ⟨-, hn⟩ := nextbitCmd_cases Config.std s <;> rw [hn]
  · exact controlOutcome_failWith _ _ _
  · exact .succeeded (rspErr_respond ..) (.nextbit ⟨by simp, by simp, by simp, by simp⟩)

/-- A command that only answers keeps the control state, whether it fails or succeeds. -/
theorem controlOutcome_answered {i : Instr} (s : State) (w : RspWord)
    (h : ∀ t, KeepsControl s t → SuccessControl s t i) : ControlOutcome i s (answered s w) := by
  have keeps : KeepsControl s (answered s w) := ⟨rfl, rfl, rfl, rfl⟩
  by_cases hw : rspErr w = 0#3
  · exact .succeeded hw (h _ keeps)
  · exact .failed hw keeps

theorem observeSelected_controlOutcome {i : Instr} (sel : BitVec 2) (acc : RegName → Except Err Bool) (s : State)
    (h : ∀ t, KeepsControl s t → SuccessControl s t i) : ControlOutcome i s (observeSelected sel acc s) := by
  obtain ⟨w, hw⟩ := observeSelected_eq_answered sel acc s
  exact hw ▸ controlOutcome_answered s w h

/-- What every engine command can do to the control state. -/
theorem exec_controlOutcome {i : Instr} {s t : State} (hi : i.isCore = true) (h : exec i s = .next t) :
    ControlOutcome i s t := by
  cases i with
  | runall => cases hi
  | zero k f => cases h; exact zeroCmd_controlOutcome k f s
  | mixkey b => cases h; exact mixkeyCmd_controlOutcome b s
  | mixframe b => cases h; exact mixframeCmd_controlOutcome b s
  | discard => cases h; exact discardCmd_controlOutcome s
  | nextbit => cases h; exact nextbitCmd_controlOutcome s
  | read sel idx => cases h; exact observeSelected_controlOutcome _ _ _ fun _ => .read
  | rdclk sel => cases h; exact observeSelected_controlOutcome _ _ _ fun _ => .rdclk
  | rdout sel => cases h; exact observeSelected_controlOutcome _ _ _ fun _ => .rdout

/-! ### `PHASE` and `COUNT` -/

theorem CountsStep.of_last {p next : Phase} {limit : Nat} {s t : State} (h : CountsStep p next limit s t)
    (hlast : s.count.toNat + 1 = limit) : t.phase = next ∧ t.count = 0#8 := by
  cases h with
  | last _ phase count => exact ⟨phase, count⟩
  | more hmore => exact absurd hlast hmore

theorem CountsStep.phase_eq_or_last {p next : Phase} {limit : Nat} {s t : State} (h : CountsStep p next limit s t)
    (home : s.phase = p) :
    t.phase = s.phase ∨ (s.count.toNat + 1 = limit ∧ t.phase = next ∧ t.count = 0#8) := by
  cases h with
  | last hlast phase count => exact .inr ⟨hlast, phase, count⟩
  | more _ phase _ => exact .inl (phase.trans home.symm)

theorem EngineInv.count_of_zeroed {s : State} (hinv : EngineInv s) (hz : s.phase = .zeroed) : s.count = 0#8 :=
  hinv.count_zero (.inr (.inl hz))

/-- In `Zeroed` a key bit that is not the only one of its episode enters `KeyMixing` with `COUNT` 1. -/
theorem CountsStep.keyMixing_of_zeroed {s t : State}
    (h : CountsStep .keyMixing .frameMixing s.klen.toNat s t) (hinv : EngineInv s) (hz : s.phase = .zeroed)
    (hlen : 1 < s.klen.toNat) : t.phase = .keyMixing ∧ t.count = 1#8 := by
  have hc : s.count = 0#8 := hinv.count_of_zeroed hz
  cases h with
  | last hlast =>
    have hone : 1 = s.klen.toNat := by simpa [hc] using hlast
    omega
  | more _ phase count => exact ⟨phase, by rw [count, hc]; rfl⟩

/-- The rows of the table of R26 for `MIXKEY`: the phase is kept, entered at the first key bit of several, or
completed at the last one. -/
theorem CountsStep.mixkey_phase {s t : State} (h : CountsStep .keyMixing .frameMixing s.klen.toNat s t)
    (hinv : EngineInv s) (home : s.phase = .zeroed ∨ s.phase = .keyMixing) :
    t.phase = s.phase ∨
    (s.phase = .zeroed ∧ 1 < s.klen.toNat ∧ t.phase = .keyMixing ∧ t.count = 1#8) ∨
    ((s.phase = .zeroed ∧ s.klen.toNat = 1 ∨ s.phase = .keyMixing) ∧ s.count.toNat + 1 = s.klen.toNat ∧
      t.phase = .frameMixing ∧ t.count = 0#8) := by
  obtain hz | hk := home
  · have hpos : 1 ≤ s.klen.toNat := (hinv.lengths_pos (by simp [hz])).1
    obtain hone | hmany := Nat.eq_or_lt_of_le hpos
    · have hlast : s.count.toNat + 1 = s.klen.toNat := by simp [hinv.count_of_zeroed hz, ← hone]
      exact .inr (.inr ⟨.inl ⟨hz, hone.symm⟩, hlast, h.of_last hlast⟩)
    · exact .inr (.inl ⟨hz, hmany, h.keyMixing_of_zeroed hinv hz hmany⟩)
  · exact (h.phase_eq_or_last hk).imp_right fun hlast => .inr ⟨.inr hk, hlast⟩

/-- Settles O50: each command's success is a row of the table of R26 or keeps the phase, a failure keeps both. -/
theorem phaseChangesOnlyAsListed : Obligations.PhaseChangesOnlyAsListed := by
  refine ⟨fun i s t hinv hi h => ?_, fun i s t hinv hi h => ?_, fun s t v w rest hin h => ?_⟩
  · obtain ⟨-, keeps⟩ | ⟨err, success⟩ := exec_controlOutcome hi h
    · exact .inl keeps.phase
    · cases success with
      | zero _ _ phase count => exact .inr (.inl ⟨⟨_, _, rfl, err⟩, phase, count⟩)
      | mixkey home counts =>
        obtain hsame | hfirst | hlast := counts.mixkey_phase hinv home
        · exact .inl hsame
        · exact .inr (.inr (.inl ⟨⟨_, rfl⟩, hfirst⟩))
        · exact .inr (.inr (.inr (.inl ⟨⟨_, rfl⟩, hlast⟩)))
      | mixframe home counts =>
        exact (counts.phase_eq_or_last home).imp_right fun hlast =>
          .inr (.inr (.inr (.inl ⟨⟨_, rfl⟩, home, hlast⟩)))
      | discard home counts =>
        exact (counts.phase_eq_or_last home).imp_right fun hlast =>
          .inr (.inr (.inr (.inr ⟨rfl, home, hlast⟩)))
      | nextbit keeps | read keeps | rdclk keeps | rdout keeps => exact .inl keeps.phase
  · obtain ⟨err, keeps⟩ | ⟨err, success⟩ := exec_controlOutcome hi h
    · exact ⟨fun _ => ⟨keeps.phase, keeps.count⟩, fun h0 => absurd h0 err⟩
    · refine ⟨fun hne => absurd err hne, fun _ => ⟨?_, ?_, ?_, ?_, ?_⟩⟩
      · rintro k f rfl
        cases success with | zero _ _ phase => exact phase
      · rintro b rfl hz hlen
        cases success with | mixkey _ counts => exact (counts.keyMixing_of_zeroed hinv hz hlen).1
      · rintro b rfl hlast
        cases success with | mixkey _ counts => exact (counts.of_last hlast).1
      · rintro b rfl hlast
        cases success with | mixframe _ counts => exact (counts.of_last hlast).1
      · rintro rfl hlast
        cases success with | discard _ counts => exact (counts.of_last hlast).1
  · rw [step_of_reset_period hin] at h
    cases h
    exact ⟨rfl, rfl⟩

/-! ### `KLEN` and `FLEN` -/

theorem one_le_toNat_of_ne_zero {l : Len} (h : l ≠ 0#8) : 1 ≤ l.toNat := by bv_omega

/-- Settles O51: a failure keeps the lengths, and of the successes only `ZERO`'s writes them. -/
theorem declaredLengthsWrittenOnlyByZero : Obligations.DeclaredLengthsWrittenOnlyByZero := by
  intro i s t hi h
  obtain ⟨err, keeps⟩ | ⟨err, success⟩ := exec_controlOutcome hi h
  · exact .inl ⟨keeps.klen, keeps.flen, fun _ _ _ => err⟩
  · cases success with
    | zero hk hf _ _ klen flen =>
      exact .inr ⟨_, _, rfl, err, klen, flen, one_le_toNat_of_ne_zero hk, one_le_toNat_of_ne_zero hf⟩
    | mixkey _ _ klen flen | mixframe _ _ klen flen | discard _ _ klen flen => exact .inl ⟨klen, flen, nofun⟩
    | nextbit keeps | read keeps | rdclk keeps | rdout keeps => exact .inl ⟨keeps.klen, keeps.flen, nofun⟩

/-! ### The state after reset -/

/-- Before its first home phase a command is refused with `InvalidPhaseTransition` (42_init_sequencer.md R102). -/
theorem gated_of_early {first last : Phase} {body : State → State} {s : State}
    (h : phaseRank s.phase < phaseRank first) : gated first last body s = answered s 0x20#8 :=
  gated_of_some (e := .invalidPhaseTransition) (if_pos h)

/-- In `NotStarted` every command that would compute from the registers is refused (10_state.md R34). -/
theorem exec_computing_of_notStarted {i : Instr} {b : Bool} {s : State} (hs : s.phase = .notStarted)
    (hi : i = .mixkey b ∨ i = .mixframe b ∨ i = .discard ∨ i = .nextbit) :
    exec i s = .next (answered s 0x20#8) := by
  have refused (first last : Phase) (body : State → State) (hfirst : phaseRank .notStarted < phaseRank first) :
      gated first last body s = answered s 0x20#8 := gated_of_early (hs ▸ hfirst)
  obtain rfl | rfl | rfl | rfl := hi <;> exact congrArg _ (refused _ _ _ (by decide))

/-- The answer of `ZERO` depends on its operands alone. -/
theorem zeroCmd_rspWord (k f : Len) (s : State) :
    (zeroCmd k f s).rspWord = if k = 0#8 ∨ f = 0#8 then 0x60#8 else 0x00#8 := by
  obtain ⟨hz, he⟩ | ⟨hk, hf, he⟩ := zeroCmd_cases k f s <;> rw [he]
  · rw [if_pos hz]; rfl
  · rw [if_neg (by simp [hk, hf])]; rfl

/-- In `NotStarted` an engine command other than the three observations has one answer, whatever else the state
holds. -/
theorem exists_rspWord_of_notStarted {i : Instr} (hi : i.isCore = true)
    (hobs : ∀ sel idx, i ≠ .read sel idx ∧ i ≠ .rdclk sel ∧ i ≠ .rdout sel) :
    ∃ w, ∀ s : State, s.phase = .notStarted → ∃ t, exec i s = .next t ∧ t.rspWord = w := by
  have computing : ∀ b, i = .mixkey b ∨ i = .mixframe b ∨ i = .discard ∨ i = .nextbit →
      ∃ w, ∀ s : State, s.phase = .notStarted → ∃ t, exec i s = .next t ∧ t.rspWord = w :=
    fun b hb => ⟨0x20#8, fun s hs => ⟨_, exec_computing_of_notStarted hs hb, rfl⟩⟩
  cases i with
  | zero k f => exact ⟨_, fun s _ => ⟨_, rfl, zeroCmd_rspWord k f s⟩⟩
  | mixkey b => exact computing b (.inl rfl)
  | mixframe b => exact computing b (.inr (.inl rfl))
  | discard => exact computing false (.inr (.inr (.inl rfl)))
  | nextbit => exact computing false (.inr (.inr (.inr rfl)))
  | read sel idx => exact absurd rfl (hobs sel idx).1
  | rdclk sel => exact absurd rfl (hobs sel 0#5).2.1
  | rdout sel => exact absurd rfl (hobs sel 0#5).2.2
  | runall => cases hi

/-- Settles O4: `PHASE` after reset is `NotStarted`, where no command but an observation looks at the registers. -/
theorem stateAfterReset : Obligations.StateAfterReset := by
  refine ⟨rfl, rfl, rfl, rfl, rfl, fun r1 r2 r3 b i hi => exec_computing_of_notStarted rfl hi,
    fun r1 r1' r2 r2' r3 r3' i hi hobs => ?_⟩
  obtain ⟨w, hw⟩ := exists_rspWord_of_notStarted hi hobs
  obtain ⟨t, ht, htw⟩ := hw { State.reset with r1 := r1, r2 := r2, r3 := r3 } rfl
  obtain ⟨t', ht', htw'⟩ := hw { State.reset with r1 := r1', r2 := r2', r3 := r3' } rfl
  exact ⟨t, t', ht, ht', htw.trans htw'.symm⟩

/-! ### The status outputs -/

/-- Settles O8: the ports are wired to the state's fields, and a period without a command keeps those fields. -/
theorem outputPortsShowTheState : Obligations.OutputPortsShowTheState := by
  refine ⟨fun s rst => ⟨rfl, rfl, fun _ _ => rfl, fun _ _ => rfl, fun _ _ => rfl⟩, fun s w rest h => ?_,
    fun s h => ?_⟩
  · exact ⟨_, step_of_unpresented_period h, fun _ => ⟨rfl, rfl, rfl, rfl, rfl⟩⟩
  · exact ⟨_, step_of_no_input h, fun _ => ⟨rfl, rfl, rfl, rfl, rfl⟩⟩

end Sys2Proof.Machine
end

section
/-! The decoder by opcode, the four formats of a command word (30_encoding.md R53) and what the encoder writes, and
the statements of 30_encoding.md sections 3 and 4 about words alone. -/

namespace Sys2Proof.Machine

open Sys2Proof

/-! ### The decoder by opcode (R54) -/

theorem opcode_cases (op : BitVec 3) :
    op = 0b000#3 ∨ op = 0b001#3 ∨ op = 0b010#3 ∨ op = 0b011#3 ∨ op = 0b100#3 ∨ op = 0b101#3 ∨ op = 0b110#3 ∨
      op = 0b111#3 := by
  revert op; decide

/-- The opcode bit by bit, as the decoder reads it. -/
theorem opcode_bits {w : CmdWord} {op : BitVec 3} (h : w.extractLsb' 21 3 = op) :
    w.getLsbD 23 = op.getLsbD 2 ∧ w.getLsbD 22 = op.getLsbD 1 ∧ w.getLsbD 21 = op.getLsbD 0 := by
  subst h; simp

theorem decode_of_opcode_zero {w : CmdWord} (h : w.extractLsb' 21 3 = 0b000#3) :
    decode w = .zero (klenField w) (flenField w) := by
  simp only [decode, opcode_bits h, BitVec.reduceGetLsb]

theorem decode_of_opcode_mixkey {w : CmdWord} (h : w.extractLsb' 21 3 = 0b001#3) :
    decode w = .mixkey (bField w) := by
  simp only [decode, opcode_bits h, BitVec.reduceGetLsb]

theorem decode_of_opcode_mixframe {w : CmdWord} (h : w.extractLsb' 21 3 = 0b010#3) :
    decode w = .mixframe (bField w) := by
  simp only [decode, opcode_bits h, BitVec.reduceGetLsb]

theorem decode_of_opcode_discard {w : CmdWord} (h : w.extractLsb' 21 3 = 0b011#3) : decode w = .discard := by
  simp only [decode, opcode_bits h, BitVec.reduceGetLsb]

theorem decode_of_opcode_nextbit {w : CmdWord} (h : w.extractLsb' 21 3 = 0b100#3) : decode w = .nextbit := by
  simp only [decode, opcode_bits h, BitVec.reduceGetLsb]

theorem decode_of_opcode_read {w : CmdWord} (h : w.extractLsb' 21 3 = 0b101#3) :
    decode w = .read (selField w) (idxField w) := by
  simp only [decode, opcode_bits h, BitVec.reduceGetLsb]

theorem decode_of_opcode_rdclk {w : CmdWord} (h : w.extractLsb' 21 3 = 0b110#3) :
    decode w = .rdclk (selField w) := by
  simp only [decode, opcode_bits h, BitVec.reduceGetLsb]

theorem decode_of_opcode_rdout {w : CmdWord} (h : w.extractLsb' 21 3 = 0b111#3) :
    decode w = .rdout (selField w) := by
  simp only [decode, opcode_bits h, BitVec.reduceGetLsb]

theorem opcodeOf_decode (w : CmdWord) : opcodeOf (decode w) = some (w.extractLsb' 21 3) := by
  obtain h | h | h | h | h | h | h | h := opcode_cases (w.extractLsb' 21 3) <;> rw [h]
  · rw [decode_of_opcode_zero h]; rfl
  · rw [decode_of_opcode_mixkey h]; rfl
  · rw [decode_of_opcode_mixframe h]; rfl
  · rw [decode_of_opcode_discard h]; rfl
  · rw [decode_of_opcode_nextbit h]; rfl
  · rw [decode_of_opcode_read h]; rfl
  · rw [decode_of_opcode_rdclk h]; rfl
  · rw [decode_of_opcode_rdout h]; rfl

/-- Settles O13: the decoder branches on the opcode alone, and the words with operands 0 are their opcodes. -/
theorem opcodeSelectsTheCommand : Obligations.OpcodeSelectsTheCommand :=
  ⟨opcodeOf_decode, rfl, rfl, rfl, rfl, rfl, rfl, rfl, rfl⟩

/-- Settles O15: each of the four codes is evaluated. -/
theorem registerSelectCodes : Obligations.RegisterSelectCodes := ⟨rfl, rfl, rfl, rfl⟩

/-! ### A word is its opcode, its unused bits and its fields, put together (R53) -/

theorem ofBool_bField (w : CmdWord) : BitVec.ofBool (bField w) = w.extractLsb' 0 1 := by
  ext i hi
  obtain rfl : i = 0 := by omega
  simp [bField]

/-- Four adjacent parts of a word, from the top bit to bit 0, make it up. -/
theorem parts_append {a b c d : Nat} (w : BitVec (a + b + c + d)) :
    w.extractLsb' (b + c + d) a ++ w.extractLsb' (c + d) b ++ w.extractLsb' d c ++ w.extractLsb' 0 d = w := by
  rw [BitVec.extractLsb'_append_extractLsb'_eq_extractLsb' (by omega),
    BitVec.extractLsb'_append_extractLsb'_eq_extractLsb' (by omega),
    BitVec.extractLsb'_append_extractLsb'_eq_extractLsb' (by omega)]
  exact BitVec.extractLsb'_eq_self

theorem lengths_format (w : CmdWord) :
    w.extractLsb' 21 3 ++ w.extractLsb' 16 5 ++ klenField w ++ flenField w = w :=
  parts_append (a := 3) (b := 5) (c := 8) (d := 8) w

theorem select_format (w : CmdWord) :
    w.extractLsb' 21 3 ++ w.extractLsb' 7 14 ++ selField w ++ idxField w = w :=
  parts_append (a := 3) (b := 14) (c := 2) (d := 5) w

theorem bit_format (w : CmdWord) :
    w.extractLsb' 21 3 ++ w.extractLsb' 1 20 ++ BitVec.ofBool (bField w) = w := by
  rw [ofBool_bField, BitVec.extractLsb'_append_extractLsb'_eq_extractLsb' (by rfl),
    BitVec.extractLsb'_append_extractLsb'_eq_extractLsb' (by rfl)]
  exact BitVec.extractLsb'_eq_self

theorem bare_format (w : CmdWord) : w.extractLsb' 21 3 ++ w.extractLsb' 0 21 = w := by
  rw [BitVec.extractLsb'_append_extractLsb'_eq_extractLsb' (by rfl)]
  exact BitVec.extractLsb'_eq_self

/-! ### The fields of a word put together -/

/-- Each of four parts but the second, the unused bits, read back. -/
theorem parts_of_append {a b c d : Nat} (op : BitVec a) (u : BitVec b) (x : BitVec c) (y : BitVec d) :
    (op ++ u ++ x ++ y).extractLsb' (b + c + d) a = op ∧ (op ++ u ++ x ++ y).extractLsb' d c = x ∧
      (op ++ u ++ x ++ y).extractLsb' 0 d = y := by
  refine ⟨?_, ?_, BitVec.extractLsb'_append_eq_right⟩
  · rw [BitVec.extractLsb'_append_eq_of_le (by omega), BitVec.extractLsb'_append_eq_of_le (by omega),
      Nat.add_sub_cancel, Nat.add_sub_cancel, BitVec.extractLsb'_append_eq_left]
  · rw [BitVec.extractLsb'_append_eq_of_le le_rfl, Nat.sub_self, BitVec.extractLsb'_append_eq_right]

theorem lengths_fields (op : BitVec 3) (u : BitVec 5) (k f : Len) :
    (op ++ u ++ k ++ f).extractLsb' 21 3 = op ∧ klenField (op ++ u ++ k ++ f) = k ∧
      flenField (op ++ u ++ k ++ f) = f :=
  parts_of_append op u k f

theorem select_fields (op : BitVec 3) (u : BitVec 14) (sel : BitVec 2) (idx : BitVec 5) :
    (op ++ u ++ sel ++ idx).extractLsb' 21 3 = op ∧ selField (op ++ u ++ sel ++ idx) = sel ∧
      idxField (op ++ u ++ sel ++ idx) = idx :=
  parts_of_append op u sel idx

theorem bit_fields (op : BitVec 3) (u : BitVec 20) (b : Bool) :
    (op ++ u ++ BitVec.ofBool b).extractLsb' 21 3 = op ∧ bField (op ++ u ++ BitVec.ofBool b) = b := by
  constructor
  · rw [BitVec.extractLsb'_append_eq_of_le (by decide)]
    exact BitVec.extractLsb'_append_eq_left
  · rw [bField, BitVec.getLsbD_append]; simp

/-- The decoder reads back what the encoder wrote. -/
theorem decode_encodeWord {i : Instr} {w : CmdWord} (h : encodeWord i = some w) : decode w = i := by
  cases i with
  | zero k f =>
    obtain ⟨hop, hk, hf⟩ := lengths_fields 0b000#3 0#5 k f
    cases h
    rw [decode_of_opcode_zero hop, hk, hf]
  | mixkey b =>
    obtain ⟨hop, hb⟩ := bit_fields 0b001#3 0#20 b
    cases h
    rw [decode_of_opcode_mixkey hop, hb]
  | mixframe b =>
    obtain ⟨hop, hb⟩ := bit_fields 0b010#3 0#20 b
    cases h
    rw [decode_of_opcode_mixframe hop, hb]
  | discard => cases h; rfl
  | nextbit => cases h; rfl
  | read sel idx =>
    obtain ⟨hop, hsel, hidx⟩ := select_fields 0b101#3 0#14 sel idx
    cases h
    rw [decode_of_opcode_read hop, hsel, hidx]
  | rdclk sel =>
    obtain ⟨hop, hsel, -⟩ := select_fields 0b110#3 0#14 sel 0#5
    cases h
    rw [decode_of_opcode_rdclk hop, hsel]
  | rdout sel =>
    obtain ⟨hop, hsel, -⟩ := select_fields 0b111#3 0#14 sel 0#5
    cases h
    rw [decode_of_opcode_rdout hop, hsel]
  | runall => cases h

/-! ### The unused bits masked out (R57) -/

theorem and_lengths_mask (w : CmdWord) :
    w &&& 0xE0FFFF#24 = w.extractLsb' 21 3 ++ 0#5 ++ klenField w ++ flenField w := by
  have mask : 0xE0FFFF#24 = BitVec.allOnes 3 ++ 0#5 ++ BitVec.allOnes 8 ++ BitVec.allOnes 8 := rfl
  conv_lhs => rw [← lengths_format w, mask]
  rw [BitVec.and_append, BitVec.and_append, BitVec.and_append]
  simp only [BitVec.and_allOnes, BitVec.and_zero]

theorem and_bit_mask (w : CmdWord) :
    w &&& 0xE00001#24 = w.extractLsb' 21 3 ++ 0#20 ++ BitVec.ofBool (bField w) := by
  have mask : 0xE00001#24 = BitVec.allOnes 3 ++ 0#20 ++ BitVec.allOnes 1 := rfl
  conv_lhs => rw [← bit_format w, mask]
  rw [BitVec.and_append, BitVec.and_append]
  simp only [BitVec.and_allOnes, BitVec.and_zero]

theorem and_bare_mask (w : CmdWord) : w &&& 0xE00000#24 = w.extractLsb' 21 3 ++ 0#21 := by
  have mask : 0xE00000#24 = BitVec.allOnes 3 ++ 0#21 := rfl
  conv_lhs => rw [← bare_format w, mask]
  rw [BitVec.and_append, BitVec.and_allOnes, BitVec.and_zero]

theorem and_index_mask (w : CmdWord) :
    w &&& 0xE0007F#24 = w.extractLsb' 21 3 ++ 0#14 ++ selField w ++ idxField w := by
  have mask : 0xE0007F#24 = BitVec.allOnes 3 ++ 0#14 ++ BitVec.allOnes 2 ++ BitVec.allOnes 5 := rfl
  conv_lhs => rw [← select_format w, mask]
  rw [BitVec.and_append, BitVec.and_append, BitVec.and_append]
  simp only [BitVec.and_allOnes, BitVec.and_zero]

theorem and_select_mask (w : CmdWord) :
    w &&& 0xE00060#24 = w.extractLsb' 21 3 ++ 0#14 ++ selField w ++ 0#5 := by
  have mask : 0xE00060#24 = BitVec.allOnes 3 ++ 0#14 ++ BitVec.allOnes 2 ++ 0#5 := rfl
  conv_lhs => rw [← select_format w, mask]
  rw [BitVec.and_append, BitVec.and_append, BitVec.and_append]
  simp only [BitVec.and_allOnes, BitVec.and_zero]

/-- The canonical word of a decoded command is the word with its unused bits 0. -/
theorem encodeWord_decode (w : CmdWord) : encodeWord (decode w) = some (w &&& usedBits w) := by
  obtain h | h | h | h | h | h | h | h := opcode_cases (w.extractLsb' 21 3)
  · rw [decode_of_opcode_zero h, show usedBits w = 0xE0FFFF#24 by simp [usedBits, h], and_lengths_mask, h]; rfl
  · rw [decode_of_opcode_mixkey h, show usedBits w = 0xE00001#24 by simp [usedBits, h], and_bit_mask, h]; rfl
  · rw [decode_of_opcode_mixframe h, show usedBits w = 0xE00001#24 by simp [usedBits, h], and_bit_mask, h]; rfl
  · rw [decode_of_opcode_discard h, show usedBits w = 0xE00000#24 by simp [usedBits, h], and_bare_mask, h]; rfl
  · rw [decode_of_opcode_nextbit h, show usedBits w = 0xE00000#24 by simp [usedBits, h], and_bare_mask, h]; rfl
  · rw [decode_of_opcode_read h, show usedBits w = 0xE0007F#24 by simp [usedBits, h], and_index_mask, h]; rfl
  · rw [decode_of_opcode_rdclk h, show usedBits w = 0xE00060#24 by simp [usedBits, h], and_select_mask, h]; rfl
  · rw [decode_of_opcode_rdout h, show usedBits w = 0xE00060#24 by simp [usedBits, h], and_select_mask, h]; rfl

theorem decode_and_usedBits (w : CmdWord) : decode (w &&& usedBits w) = decode w :=
  decode_encodeWord (encodeWord_decode w)

theorem encode_of_encodeWord {i : Instr} {w : CmdWord} (h : encodeWord i = some w) : encode i = [w] := by
  cases i with
  | runall => cases h
  | _ => cases h; rfl

theorem isCore_of_encodeWord {i : Instr} {w : CmdWord} (h : encodeWord i = some w) : i.isCore = true := by
  cases i with
  | runall => cases h
  | _ => rfl

/-- No word decodes to `RUNALL` (R63). -/
theorem isCore_decode (w : CmdWord) : (decode w).isCore = true := isCore_of_encodeWord (encodeWord_decode w)

/-- Settles O12: a word and its used bits alone are the same command, and the encoder writes the latter. -/
theorem unusedBitsAreIgnored : Obligations.UnusedBitsAreIgnored := by
  refine ⟨fun w v h => ?_, fun w => encode_of_encodeWord (encodeWord_decode w)⟩
  calc decode w = decode (w &&& usedBits w) := (decode_and_usedBits w).symm
    _ = decode (v &&& usedBits v) := by rw [h]
    _ = decode v := decode_and_usedBits v

end Sys2Proof.Machine
end

section
/-! What an engine command answers at the response port (30_encoding.md R60, R61), said once for every command, and
the statements of 30_encoding.md sections 2, 4 and 5 that follow from it. -/

namespace Sys2Proof.Machine

open Sys2Proof

/-- `t` presents a response, and what lies outside the engine is as in `s`. -/
structure Answers (s t : State) : Prop where
  rspValid : t.rspValid = true
  inputs : t.inputs = s.inputs
  draws : t.draws = s.draws
  driverReport : t.driverReport = s.driverReport

/-- The response of a successful engine command that leads from `s` to `t` (R61). -/
def SuccessResponse (s t : State) : Instr → Prop
  | .zero _ _ => t.rspWord = 0x00#8
  | .mixkey _ => t.rspWord = 0x07#8
  | .mixframe _ => t.rspWord = 0x07#8
  | .discard => CycleResponse s false t.rspWord
  | .nextbit => CycleResponse s (t.r1.getLsbD 18 ^^ t.r2.getLsbD 21 ^^ t.r3.getLsbD 22) t.rspWord
  | .read sel idx => ∃ k, selReg sel = some k ∧ t.rspWord = bitResponse (regBit k idx.toNat s)
  | .rdclk sel => ∃ k, selReg sel = some k ∧ t.rspWord = bitResponse (regBit k (Config.std.wiring k).clk s)
  | .rdout sel => ∃ k, selReg sel = some k ∧ t.rspWord = bitResponse (regBit k (Config.std.wiring k).out s)
  | .runall _ _ => False

/-- What an engine command can answer: it fails, or it succeeds with the response listed for it. -/
inductive ResponseOutcome (i : Instr) (s t : State) : Prop where
  | failed (e : Err) (fails : t = failWith e s)
  | succeeded (answers : Answers s t) (err : rspErr t.rspWord = 0#3) (response : SuccessResponse s t i)

/-! ### The fields of a response word -/

/-- The lowest three bits are the advanced registers (R60). -/
theorem getLsbD_responseWord_of_lt {e : Option Err} {b m : Bool} {k : BitVec 3} {i : Nat} (hi : i < 3) :
    (responseWord e b m k).getLsbD i = k.getLsbD i := by
  rw [responseWord, BitVec.getLsbD_append, if_pos hi]

theorem cycleResponse_decideAndClock (z : Bool) (s : State) :
    CycleResponse s z
      (responseWord none z (decideAndClock Config.std s).majority (decideAndClock Config.std s).clocked) := by
  refine ⟨rspErr_responseWord .., rspBit_responseWord .., ?_, ?_, ?_, ?_⟩
  · exact (rspMaj_responseWord ..).trans (majOf_std s)
  · rw [getLsbD_responseWord_of_lt (by decide), decideAndClock_eq, majOf_std]
    exact clockedMask_getElem_two ..
  · rw [getLsbD_responseWord_of_lt (by decide), decideAndClock_eq, majOf_std]
    exact clockedMask_getElem_one ..
  · rw [getLsbD_responseWord_of_lt (by decide), decideAndClock_eq, majOf_std]
    exact clockedMask_getElem_zero ..

theorem responseWord_bit (b : Bool) : responseWord none b false 0#3 = bitResponse b := by
  cases b <;> rfl

theorem rspErr_bitResponse (b : Bool) : rspErr (bitResponse b) = 0#3 :=
  responseWord_bit b ▸ rspErr_responseWord ..

theorem rspErr_failWith_ne_zero (e : Err) (s : State) : rspErr (failWith e s).rspWord ≠ 0#3 := by
  simpa using errCode_some_ne_zero e

/-! ### The observation commands -/

theorem bitAt_of_outside {k : RegName} {i : Nat} (h : k.len ≤ i) (s : State) :
    bitAt k i s = .error .indexOutOfRange := by
  simp [bitAt, stageIndex, h]

theorem bitAt_of_inside {k : RegName} {i : Nat} (h : i < k.len) (s : State) : bitAt k i s = .ok (regBit k i s) := by
  simp [bitAt, stageIndex, Nat.not_le.2 h]

theorem observeSelected_of_reserved {sel : BitVec 2} (h : selReg sel = none) (acc : RegName → Except Err Bool)
    (s : State) : observeSelected sel acc s = failWith .illegalCommand s := by
  rw [observeSelected, h]

theorem observeSelected_of_error {sel : BitVec 2} {k : RegName} {acc : RegName → Except Err Bool} {e : Err}
    (h : selReg sel = some k) (he : acc k = .error e) (s : State) :
    observeSelected sel acc s = failWith e s := by
  simp only [observeSelected, h, he, observe]

theorem observeSelected_of_ok {sel : BitVec 2} {k : RegName} {acc : RegName → Except Err Bool} {b : Bool}
    (h : selReg sel = some k) (hb : acc k = .ok b) (s : State) :
    observeSelected sel acc s = answered s (bitResponse b) := by
  simp only [observeSelected, h, hb, observe, ← responseWord_bit]
  rfl

theorem observeSelected_responseOutcome {i : Instr} (sel : BitVec 2) (acc : RegName → Except Err Bool) (s : State)
    (h : ∀ k b, selReg sel = some k → acc k = .ok b → SuccessResponse s (answered s (bitResponse b)) i) :
    ResponseOutcome i s (observeSelected sel acc s) := by
  cases hk : selReg sel with
  | none => exact .failed _ (observeSelected_of_reserved hk acc s)
  | some k =>
    cases hb : acc k with
    | error e => exact .failed e (observeSelected_of_error hk hb s)
    | ok b =>
      rw [observeSelected_of_ok hk hb]
      exact .succeeded ⟨rfl, rfl, rfl, rfl⟩ (rspErr_bitResponse b) (h k b hk hb)

theorem readCmd_responseOutcome (sel : BitVec 2) (idx : BitVec 5) (s : State) :
    ResponseOutcome (.read sel idx) s (readCmd sel idx s) := by
  refine observeSelected_responseOutcome sel _ s fun k b hk hb => ⟨k, hk, ?_⟩
  obtain hout | hin := le_or_gt k.len idx.toNat
  · cases (bitAt_of_outside hout s).symm.trans hb
  · cases (bitAt_of_inside hin s).symm.trans hb
    rfl

/-! ### Every command -/

theorem zeroCmd_responseOutcome (k f : Len) (s : State) : ResponseOutcome (.zero k f) s (zeroCmd k f s) := by
  obtain ⟨-, hz⟩ | ⟨-, -, hz⟩ := zeroCmd_cases k f s <;> rw [hz]
  · exact .failed _ rfl
  · exact .succeeded ⟨rfl, rfl, rfl, rfl⟩ (rspErr_responseWord ..) rfl

theorem mixkeyCmd_responseOutcome (b : Bool) (s : State) :
    ResponseOutcome (.mixkey b) s (mixkeyCmd Config.std b s) := by
  obtain ⟨e, -, hm⟩ | ⟨-, hm⟩ := mixkeyCmd_cases Config.std b s <;> rw [hm]
  · exact .failed e rfl
  · exact .succeeded ⟨rfl, by simp, by simp, by simp⟩ (rspErr_respond ..) rfl

theorem mixframeCmd_responseOutcome (b : Bool) (s : State) :
    ResponseOutcome (.mixframe b) s (mixframeCmd Config.std b s) := by
  obtain ⟨e, -, hm⟩ | ⟨-, hm⟩ := mixframeCmd_cases Config.std b s <;> rw [hm]
  · exact .failed e rfl
  · exact .succeeded ⟨rfl, by simp, by simp, by simp⟩ (rspErr_respond ..) rfl

theorem discardCmd_responseOutcome (s : State) : ResponseOutcome .discard s (discardCmd Config.std s) := by
  obtain ⟨e, -, hd⟩ | ⟨-, hd⟩ := discardCmd_cases Config.std s <;> rw [hd]
  · exact .failed e rfl
  · exact .succeeded ⟨rfl, by simp, by simp, by simp⟩ (rspErr_respond ..) (cycleResponse_decideAndClock false s)

theorem nextbitCmd_responseOutcome (s : State) : ResponseOutcome .nextbit s (nextbitCmd Config.std s) := by
  obtain ⟨e, -, hn⟩ | ⟨-, hn⟩ := nextbitCmd_cases Config.std s <;> rw [hn]
  · exact .failed e rfl
  · exact .succeeded ⟨rfl, by simp, by simp, by simp⟩ (rspErr_respond ..) (cycleResponse_decideAndClock _ s)

/-- What every engine command can answer. -/
theorem exec_responseOutcome {i : Instr} {s t : State} (hi : i.isCore = true) (h : exec i s = .next t) :
    ResponseOutcome i s t := by
  cases i with
  | runall => cases hi
  | zero k f => cases h; exact zeroCmd_responseOutcome k f s
  | mixkey b => cases h; exact mixkeyCmd_responseOutcome b s
  | mixframe b => cases h; exact mixframeCmd_responseOutcome b s
  | discard => cases h; exact discardCmd_responseOutcome s
  | nextbit => cases h; exact nextbitCmd_responseOutcome s
  | read sel idx => cases h; exact readCmd_responseOutcome sel idx s
  | rdclk sel =>
    cases h
    exact observeSelected_responseOutcome sel _ s fun k b hk hb => ⟨k, hk, by cases hb; rfl⟩
  | rdout sel =>
    cases h
    exact observeSelected_responseOutcome sel _ s fun k b hk hb => ⟨k, hk, by cases hb; rfl⟩

theorem ResponseOutcome.answers {i : Instr} {s t : State} (h : ResponseOutcome i s t) : Answers s t := by
  cases h with
  | failed e fails => exact fails ▸ ⟨rfl, rfl, rfl, rfl⟩
  | succeeded answers => exact answers

theorem ResponseOutcome.rspWord_of_failed {i : Instr} {s t : State} (h : ResponseOutcome i s t)
    (herr : rspErr t.rspWord ≠ 0#3) : t.rspWord = (rspErr t.rspWord).zeroExtend 8 <<< 5 := by
  cases h with
  | failed e fails =>
    rw [fails, failWith_rspWord, rspErr_responseWord]
    exact responseWord_fail e
  | succeeded _ err => exact absurd err herr

theorem ResponseOutcome.response_of_succeeded {i : Instr} {s t : State} (h : ResponseOutcome i s t)
    (herr : rspErr t.rspWord = 0#3) : SuccessResponse s t i := by
  cases h with
  | failed e fails => exact absurd (fails ▸ herr) (rspErr_failWith_ne_zero e s)
  | succeeded _ _ response => exact response

/-- Settles O49: the command's outcome is a failure, or its row of R61. -/
theorem responseFieldsOfEveryCommand : Obligations.ResponseFieldsOfEveryCommand := by
  intro i s t hi h
  have outcome : ResponseOutcome i s t := exec_responseOutcome hi h
  refine ⟨outcome.answers.rspValid, outcome.rspWord_of_failed, fun herr => ?_⟩
  have response : SuccessResponse s t i := outcome.response_of_succeeded herr
  refine ⟨?_, ?_, ?_, ?_, ?_, ?_, ?_⟩
  · rintro k f rfl; exact response
  · rintro b (rfl | rfl) <;> exact response
  · rintro rfl; exact response
  · rintro rfl; exact response
  · rintro sel idx rfl; exact response
  · rintro sel rfl; exact response
  · rintro sel rfl; exact response

/-! ### Requests that fail in every phase, and the outcome of every word (R58) -/

theorem zeroCmd_of_empty {k f : Len} (h : k = 0#8 ∨ f = 0#8) (s : State) : zeroCmd k f s = answered s 0x60#8 :=
  if_pos h

theorem observeSelected_three (acc : RegName → Except Err Bool) (s : State) :
    observeSelected 3#2 acc s = answered s 0xA0#8 := observeSelected_of_reserved rfl acc s

theorem readCmd_of_outside {sel : BitVec 2} {k : RegName} {idx : BitVec 5} (hk : selReg sel = some k)
    (h : k.len ≤ idx.toNat) (s : State) : readCmd sel idx s = answered s 0x80#8 :=
  observeSelected_of_error (acc := fun k => bitAt k idx.toNat s) hk (bitAt_of_outside h s) s

theorem exists_exec_of_isCore {i : Instr} (hi : i.isCore = true) (s : State) : ∃ t, exec i s = .next t := by
  cases i with
  | runall => cases hi
  | _ => exact ⟨_, rfl⟩

/-- Settles O16: the three checks come before everything else, and every word decodes to an engine command. -/
theorem everyCommandWordHasAnOutcome : Obligations.EveryCommandWordHasAnOutcome := by
  refine ⟨fun idx s => ?_, fun s => ?_, fun s => ?_, fun l s => ⟨?_, ?_⟩, fun sel k idx s hk hidx => ?_,
    fun w => ?_⟩
  · exact congrArg Host.Outcome.next (observeSelected_three _ s)
  · exact congrArg Host.Outcome.next (observeSelected_three _ s)
  · exact congrArg Host.Outcome.next (observeSelected_three _ s)
  · exact congrArg Host.Outcome.next (zeroCmd_of_empty (.inl rfl) s)
  · exact congrArg Host.Outcome.next (zeroCmd_of_empty (.inr rfl) s)
  · exact congrArg Host.Outcome.next (readCmd_of_outside hk hidx s)
  · exact ⟨isCore_decode w, exists_exec_of_isCore (isCore_decode w)⟩

/-! ### One period of the handshake (R64) -/

theorem step_of_presented_word {s : State} {w : CmdWord} {rest : List HostInput}
    (h : s.inputs = .period false true w :: rest) : step s = exec (decode w) { s with inputs := rest } :=
  step_of_input h

theorem sameEngine_idlePeriod (s : State) (rest : List HostInput) :
    SameEngine s (idlePeriod { s with inputs := rest }) := ⟨rfl, rfl, rfl, rfl, rfl, rfl, rfl⟩

/-- Settles O2: a presented word is executed and answered, a period without a command only withdraws the response,
and a reset does not look at the command. -/
theorem handshakeOfOnePeriod : Obligations.HandshakeOfOnePeriod := by
  refine ⟨fun s w rest hin => ?_, fun s w rest hin => ?_, fun s hin => ?_, fun s w rest hin => ?_, fun _ => rfl⟩
  · obtain ⟨t, ht⟩ := exists_exec_of_isCore (isCore_decode w) { s with inputs := rest }
    have answers : Answers { s with inputs := rest } t := (exec_responseOutcome (isCore_decode w) ht).answers
    exact ⟨t, (step_of_presented_word hin).trans ht, ht, answers.rspValid, by simp [portsOut, answers.rspValid], rfl,
      answers.inputs⟩
  · exact ⟨_, step_of_unpresented_period hin, sameEngine_idlePeriod s rest, rfl, rfl, rfl, rfl⟩
  · exact ⟨_, step_of_no_input hin, sameEngine_idlePeriod s s.inputs, rfl, hin, rfl, rfl⟩
  · have hreset := step_of_reset_period hin
    have hsilent := step_of_reset_period (s := { s with inputs := .period true false w :: rest }) rfl
    exact ⟨hreset.trans hsilent.symm, _, hreset, rfl⟩

end Sys2Proof.Machine
end

section
/-! The register primitives (40_register_primitives.md) for any register: `reg_zero`, `reg_shift` and `reg_clock` as
a write of one register's contents, the feedback as a parity, and the statements of that file's section 1. -/

namespace Sys2Proof.Machine

open Sys2Proof

/-! ### The contents of a register, read and written -/

/-- The contents of register `k`, bit `i` being `Rk[i]`. -/
def regOf (k : RegName) (s : State) : BitVec k.len :=
  match k with
  | .r1 => s.r1
  | .r2 => s.r2
  | .r3 => s.r3

/-- `s` with the contents of register `k` replaced by `r`. -/
def setReg (k : RegName) (r : BitVec k.len) (s : State) : State :=
  match k with
  | .r1 => { s with r1 := r }
  | .r2 => { s with r2 := r }
  | .r3 => { s with r3 := r }

theorem regBit_eq_getLsbD_regOf (k : RegName) (i : Nat) (s : State) : regBit k i s = (regOf k s).getLsbD i := by
  cases k <;> rfl

theorem regOf_eq_of_sameReg {k : RegName} {s t : State} (h : SameReg k s t) : regOf k s = regOf k t :=
  BitVec.eq_of_getLsbD_eq fun i _ => by simpa only [regBit_eq_getLsbD_regOf] using h i

@[simp] theorem regOf_setReg_same (k : RegName) (r : BitVec k.len) (s : State) : regOf k (setReg k r s) = r := by
  cases k <;> rfl

/-- Writing register `k` leaves every bit of another register as it is. -/
theorem regBit_setReg_of_ne {j k : RegName} (h : j ≠ k) (i : Nat) (r : BitVec k.len) (s : State) :
    regBit j i (setReg k r s) = regBit j i s := by
  cases k with
  | r1 => cases j with
    | r1 => exact absurd rfl h
    | r2 | r3 => rfl
  | r2 => cases j with
    | r2 => exact absurd rfl h
    | r1 | r3 => rfl
  | r3 => cases j with
    | r3 => exact absurd rfl h
    | r1 | r2 => rfl

theorem onlyRegistersDiffer_setReg (k : RegName) (r : BitVec k.len) (s : State) :
    OnlyRegistersDiffer s (setReg k r s) := by
  cases k <;> rfl

/-! ### `reg_zero` (R70) -/

theorem regZero_eq_setReg (k : RegName) (s : State) : regZero k s = setReg k 0 s := by
  cases k <;> rfl

/-- Settles O18: zeroing is a write of the zero vector to one register. -/
theorem regZeroClearsOneRegister : Obligations.RegZeroClearsOneRegister := by
  intro k s
  rw [regZero_eq_setReg]
  refine ⟨fun i _ => ?_, fun j hj i => regBit_setReg_of_ne hj i 0 s, onlyRegistersDiffer_setReg k 0 s⟩
  rw [regBit_eq_getLsbD_regOf, regOf_setReg_same]
  exact BitVec.getLsbD_zero

/-! ### `fb` (R71) -/

/-- Folding XOR over the bits a list selects adds their parity to the bit it starts with. -/
theorem foldl_xor_eq_parity (f : Nat → Bool) (ts : List Nat) (v : Bool) :
    ts.foldl (fun v t => v ^^ f t) v = (v ^^ decide ((ts.filter f).length % 2 = 1)) := by
  induction ts generalizing v with
  | nil => simp
  | cons t ts ih =>
    rw [List.foldl_cons, ih]
    cases ht : f t with
    | false => simp [ht]
    | true =>
      have flips : decide (((ts.filter f).length + 1) % 2 = 1) = !decide ((ts.filter f).length % 2 = 1) := by
        rw [← decide_not, decide_eq_decide]
        omega
      simp [ht, flips]

theorem fb_none_eq_parity (c : Config) (k : RegName) (s : State) :
    fb c k none s = decide (((c.wiring k).taps.filter (fun t => regBit k t s)).length % 2 = 1) :=
  (foldl_xor_eq_parity (fun t => regBit k t s) _ false).trans (Bool.false_xor _)

/-- Settles O19: the fold of XORs is the parity of the set taps, and the external bit comes on top of it. -/
theorem feedbackIsTheParityOfTheTaps : Obligations.FeedbackIsTheParityOfTheTaps :=
  ⟨fb_none_eq_parity, fun _ _ _ _ => rfl, fun e s => ⟨fb_std_r1 e s, fb_std_r2 e s, fb_std_r3 e s⟩⟩

/-! ### `reg_shift` (R72) -/

theorem regShift_eq_setReg (c : Config) (k : RegName) (b : Bool) (s : State) :
    regShift c k b s = (outputBit c k s, setReg k ((regOf k s).shiftConcat b) s) := by
  cases k <;> rfl

@[simp] theorem regOf_regShift_same (c : Config) (k : RegName) (b : Bool) (s : State) :
    regOf k (regShift c k b s).2 = (regOf k s).shiftConcat b := by
  rw [regShift_eq_setReg, regOf_setReg_same]

theorem regBit_zero_regShift (c : Config) (k : RegName) (b : Bool) (s : State) :
    regBit k 0 (regShift c k b s).2 = b := by
  cases k <;> exact shiftConcat_zero _ b

theorem regBit_succ_regShift (c : Config) (k : RegName) (b : Bool) (s : State) {i : Nat} (h1 : 1 ≤ i)
    (h2 : i < k.len) : regBit k i (regShift c k b s).2 = regBit k (i - 1) s := by
  simp only [regBit_eq_getLsbD_regOf, regOf_regShift_same, shiftConcat_succ _ b h1 h2]

theorem regBit_regShift_of_ne (c : Config) {j k : RegName} (h : j ≠ k) (b : Bool) (i : Nat) (s : State) :
    regBit j i (regShift c k b s).2 = regBit j i s := by
  rw [regShift_eq_setReg]
  exact regBit_setReg_of_ne h i _ s

theorem onlyRegistersDiffer_regShift (c : Config) (k : RegName) (b : Bool) (s : State) :
    OnlyRegistersDiffer s (regShift c k b s).2 := by
  rw [regShift_eq_setReg]
  exact onlyRegistersDiffer_setReg k _ s

/-- Settles O20: a shift is a write of the shifted contents to one register. -/
theorem regShiftMovesEveryStage : Obligations.RegShiftMovesEveryStage := fun c k b s =>
  ⟨rfl, regBit_zero_regShift c k b s, fun _ h1 h2 => regBit_succ_regShift c k b s h1 h2,
    fun _ hj i => regBit_regShift_of_ne c hj b i s, onlyRegistersDiffer_regShift c k b s⟩

/-! ### `reg_clock` (R73) -/

/-- Clocking register `k` reads register `k` only. -/
theorem sameReg_regClock {k : RegName} {s t : State} (h : SameReg k s t) (c : Config) (ext : Option Bool) :
    SameReg k (regClock c k ext s).2 (regClock c k ext t).2 := by
  intro i
  simp only [regClock, regBit_eq_getLsbD_regOf, regOf_regShift_same, fb_congr h, regOf_eq_of_sameReg h]

/-- Settles O21: clocking is a shift by the feedback, and both read the clocked register alone. -/
theorem regClockShiftsInTheFeedback : Obligations.RegClockShiftsInTheFeedback := by
  intro c k ext s
  obtain ⟨result, inserted, moved, others, frame⟩ := regShiftMovesEveryStage c k (fb c k ext s) s
  exact ⟨result, inserted, moved, others, frame, fun s' h => ⟨h _, sameReg_regClock h c ext⟩⟩

/-! ### The accessors (R74) -/

theorem clk_std_lt_len (k : RegName) : (Config.std.wiring k).clk < k.len := by cases k <;> decide

theorem out_std_lt_len (k : RegName) : (Config.std.wiring k).out < k.len := by cases k <;> decide

/-- Settles O22: `bit_at` checks its index, the other two read a constant index inside the register. -/
theorem accessorPrimitives : Obligations.AccessorPrimitives := fun k s =>
  ⟨fun _ h => bitAt_of_outside h s, fun _ h => bitAt_of_inside h s, fun _ => rfl, fun _ => rfl, clk_std_lt_len k,
    out_std_lt_len k⟩

end Sys2Proof.Machine
end

section
/-! The clock controller (41_clock_controller.md): the majority of three bits, one register after a majority cycle, and
the statements of that file's section 1. -/

namespace Sys2Proof.Machine

open Sys2Proof

/-! ### The majority (R90): two equal bits decide it -/

@[simp] theorem maj_of_fst_eq_snd (a d : Bool) : maj a a d = a := by
  cases a <;> cases d <;> rfl

@[simp] theorem maj_of_fst_eq_third (a b : Bool) : maj a b a = a := by
  cases a <;> cases b <;> rfl

@[simp] theorem maj_of_snd_eq_third (a b : Bool) : maj a b b = b := by
  cases a <;> cases b <;> rfl

/-- There is never a tie: two of the three bits are equal, and their value is the majority. -/
theorem maj_appears_twice (a b d : Bool) :
    (a = b ∧ maj a b d = a) ∨ (a = d ∧ maj a b d = a) ∨ (b = d ∧ maj a b d = b) := by
  by_cases hab : a = b
  · subst hab
    exact .inl ⟨rfl, maj_of_fst_eq_snd a d⟩
  · by_cases had : a = d
    · subst had
      exact .inr (.inl ⟨rfl, maj_of_fst_eq_third a b⟩)
    · have hbd : b = d := (Bool.eq_not.2 (Ne.symm hab)).trans (Bool.eq_not.2 (Ne.symm had)).symm
      subst hbd
      exact .inr (.inr ⟨rfl, maj_of_snd_eq_third a b⟩)

/-- Settles O25: the sum is the definition, the other two forms are `maj_eq` and `maj_appears_twice`. -/
theorem majorityOfThreeBits : Obligations.MajorityOfThreeBits := fun a b d =>
  ⟨rfl, maj_eq a b d, maj_appears_twice a b d⟩

/-! ### A majority cycle (R91), register by register -/

/-- A register whose clock bit equals the majority is clocked from the state before the cycle. -/
theorem regBit_decideAndClock_of_eq {c : Config} {k : RegName} {s : State}
    (h : clockBit c k s = (decideAndClock c s).majority) (i : Nat) :
    regBit k i (decideAndClock c s).after = regBit k i (regClock c k none s).2 := by
  rw [decideAndClock_eq] at h ⊢
  cases k <;> simp [regBit, h]

/-- A register whose clock bit differs from the majority keeps its contents. -/
theorem regBit_decideAndClock_of_ne {c : Config} {k : RegName} {s : State}
    (h : clockBit c k s ≠ (decideAndClock c s).majority) (i : Nat) :
    regBit k i (decideAndClock c s).after = regBit k i s := by
  rw [decideAndClock_eq] at h ⊢
  cases k <;> simp [regBit, h]

theorem onlyRegistersDiffer_decideAndClock (c : Config) (s : State) :
    OnlyRegistersDiffer s (decideAndClock c s).after := by
  rw [decideAndClock_eq]
  rfl

/-- Settles O26: a register that agrees with the majority is clocked as in O21, any other is untouched. -/
theorem decideAndClockAdvancesTheMajority : Obligations.DecideAndClockAdvancesTheMajority := by
  intro c s
  refine ⟨rfl, fun k => ?_, onlyRegistersDiffer_decideAndClock c s, clockedMask_getElem_zero ..,
    clockedMask_getElem_one .., clockedMask_getElem_two .., rfl, rfl, rfl⟩
  split
  case isTrue agrees =>
    obtain ⟨-, inserted, moved, -⟩ := regClockShiftsInTheFeedback c k none s
    simp only [regBit_decideAndClock_of_eq agrees]
    exact ⟨inserted, moved⟩
  case isFalse differs => exact regBit_decideAndClock_of_ne differs

end Sys2Proof.Machine
end

section
/-! The commands of the initialization sequencer (42_init_sequencer.md section 2): the phase check they share with
`NEXTBIT`, what `ZERO`, `MIXKEY`, `MIXFRAME` and `DISCARD` do in their home phases, and the statements of R101 to
R107. -/

namespace Sys2Proof.Machine

open Sys2Proof

/-! ### The phase check (R102) -/

/-- Past its last home phase a command is refused with `PhaseOverrun` (R102). -/
theorem gated_of_late {first last : Phase} {body : State → State} {s : State}
    (hle : phaseRank first ≤ phaseRank last) (h : phaseRank last < phaseRank s.phase) :
    gated first last body s = answered s 0x40#8 := by
  refine gated_of_some (e := .phaseOverrun) ?_
  rw [phaseError, if_neg (by omega), if_pos h]

/-- The phase check lets the phases from `first` to `last` through. -/
theorem phaseError_eq_none_iff {first last p : Phase} :
    phaseError first last p = none ↔ phaseRank first ≤ phaseRank p ∧ phaseRank p ≤ phaseRank last := by
  obtain ⟨h, he⟩ | ⟨-, h, he⟩ | ⟨h1, h2, he⟩ := phaseError_cases first last p
  · simp [he, h]
  · simp [he, h]
  · simp [he, h1, h2]

/-- Command `i` is `body`, which always succeeds, behind the phase check from `first` to `last`, and its home phases
are those that the check lets through. -/
structure GatedCommand (i : Instr) (first last : Phase) (body : State → State) : Prop where
  exec_eq : ∀ s, exec i s = .next (gated first last body s)
  rank_le : phaseRank first ≤ phaseRank last
  home_iff : ∀ p, p ∈ homePhases i ↔ phaseError first last p = none
  body_succeeds : ∀ s, rspErr (body s).rspWord = 0#3

/-- The commands with home phases are those behind a phase check. -/
theorem exists_gatedCommand {i : Instr} (h : homePhases i ≠ []) :
    ∃ first last body, GatedCommand i first last body := by
  cases i with
  | mixkey b =>
    exact ⟨.zeroed, .keyMixing, _, fun _ => rfl, by decide,
      by simp [homePhases, phaseError_mixkey_eq_none], fun _ => rspErr_respond ..⟩
  | mixframe b =>
    exact ⟨.frameMixing, .frameMixing, _, fun _ => rfl, le_rfl,
      by simp [homePhases, phaseError_single_eq_none], fun _ => rspErr_respond ..⟩
  | discard =>
    exact ⟨.discardClocking, .discardClocking, _, fun _ => rfl, le_rfl,
      by simp [homePhases, phaseError_single_eq_none], fun _ => rspErr_respond ..⟩
  | nextbit =>
    exact ⟨.ready, .ready, _, fun _ => rfl, le_rfl,
      by simp [homePhases, phaseError_single_eq_none], fun _ => rspErr_respond ..⟩
  | zero | read | rdclk | rdout | runall => exact absurd rfl h

theorem GatedCommand.home_iff_between {i : Instr} {first last : Phase} {body : State → State}
    (h : GatedCommand i first last body) (p : Phase) :
    p ∈ homePhases i ↔ phaseRank first ≤ phaseRank p ∧ phaseRank p ≤ phaseRank last :=
  (h.home_iff p).trans phaseError_eq_none_iff

theorem GatedCommand.first_home {i : Instr} {first last : Phase} {body : State → State}
    (h : GatedCommand i first last body) : first ∈ homePhases i :=
  (h.home_iff_between first).2 ⟨le_rfl, h.rank_le⟩

/-- Settles O46: a phase that is no home phase lies before the first of them, or behind the last. -/
theorem phaseCheckOfHomePhases : Obligations.PhaseCheckOfHomePhases := by
  intro i s hi
  obtain ⟨first, last, body, h⟩ := exists_gatedCommand hi
  rw [h.exec_eq]
  refine ⟨fun home => ?_, fun _ early => ?_, fun away notEarly => ?_⟩
  · rw [gated_of_none ((h.home_iff _).1 home)]
    exact ⟨_, rfl, h.body_succeeds s⟩
  · rw [gated_of_early (early first h.first_home)]
  · have late : phaseRank last < phaseRank s.phase := by
      push Not at notEarly
      obtain ⟨p, hp, reached⟩ := notEarly
      have begun : phaseRank first ≤ phaseRank s.phase := ((h.home_iff_between p).1 hp).1.trans reached
      exact not_le.1 fun hle => away ((h.home_iff_between _).2 ⟨begun, hle⟩)
    rw [gated_of_late h.rank_le late]

/-- Before all its home phases a command with a phase check fails with `InvalidPhaseTransition`. -/
theorem exec_of_early {i : Instr} {s : State} (hi : homePhases i ≠ [])
    (h : ∀ p ∈ homePhases i, phaseRank s.phase < phaseRank p) : exec i s = .next (answered s 0x20#8) :=
  (phaseCheckOfHomePhases i s hi).2.1 (fun home => (h _ home).false) h

/-- Behind all its home phases a command with a phase check fails with `PhaseOverrun`. -/
theorem exec_of_late {i : Instr} {s : State} (hi : homePhases i ≠ [])
    (h : ∀ p ∈ homePhases i, phaseRank p < phaseRank s.phase) : exec i s = .next (answered s 0x40#8) := by
  refine (phaseCheckOfHomePhases i s hi).2.2 (fun home => (h _ home).false) fun early => ?_
  obtain ⟨p, hp⟩ := List.exists_mem_of_ne_nil _ hi
  exact (h p hp).asymm (early p hp)

/-! ### `ZERO` (R101) -/

theorem zeroCmd_of_nonempty {k f : Len} (hk : k ≠ 0#8) (hf : f ≠ 0#8) (s : State) : zeroCmd k f s =
    { s with r1 := 0#19, r2 := 0#22, r3 := 0#23, klen := k, flen := f, phase := .zeroed,
             count := 0#8, rspValid := true, rspWord := 0x00#8 } :=
  if_neg (by simp [hk, hf])

/-- Settles O28: `ZERO` writes every field it names where both lengths are nonzero, and fails otherwise. -/
theorem zeroStartsAnEpisode : Obligations.ZeroStartsAnEpisode :=
  ⟨fun _ _ s hk hf => congrArg _ (zeroCmd_of_nonempty hk hf s),
    fun _ _ s h => congrArg _ (zeroCmd_of_empty h s), fun _ hop => decode_of_opcode_zero hop⟩

/-! ### The registers of a mixing step and of a majority cycle -/

theorem advancedR1_shiftConcat_fb (e : Bool) (s : State) :
    AdvancedR1 s.r1 (s.r1.shiftConcat (fb Config.std .r1 (some e) s)) e :=
  ⟨(shiftConcat_zero ..).trans (fb_std_r1 e s), fun _ h1 h2 => shiftConcat_succ _ _ h1 (by omega)⟩

theorem advancedR2_shiftConcat_fb (e : Bool) (s : State) :
    AdvancedR2 s.r2 (s.r2.shiftConcat (fb Config.std .r2 (some e) s)) e :=
  ⟨(shiftConcat_zero ..).trans (fb_std_r2 e s), fun _ h1 h2 => shiftConcat_succ _ _ h1 (by omega)⟩

theorem advancedR3_shiftConcat_fb (e : Bool) (s : State) :
    AdvancedR3 s.r3 (s.r3.shiftConcat (fb Config.std .r3 (some e) s)) e :=
  ⟨(shiftConcat_zero ..).trans (fb_std_r3 e s), fun _ h1 h2 => shiftConcat_succ _ _ h1 (by omega)⟩

theorem mixedBy_mixAll (b : Bool) (s : State) : MixedBy b s (mixAll Config.std b s) :=
  ⟨advancedR1_shiftConcat_fb b s, advancedR2_shiftConcat_fb b s, advancedR3_shiftConcat_fb b s⟩

theorem majorityClocked_decideAndClock (s : State) : MajorityClocked s (decideAndClock Config.std s).after := by
  have tap1 : clockBit Config.std .r1 s = s.r1.getLsbD 8 := rfl
  have tap2 : clockBit Config.std .r2 s = s.r2.getLsbD 10 := rfl
  have tap3 : clockBit Config.std .r3 s = s.r3.getLsbD 10 := rfl
  simp only [decideAndClock_eq, majOf_std, tap1, tap2, tap3, beq_iff_eq, fb_none]
  refine ⟨?_, ?_, ?_⟩ <;> split
  · exact advancedR1_shiftConcat_fb false s
  · rfl
  · exact advancedR2_shiftConcat_fb false s
  · rfl
  · exact advancedR3_shiftConcat_fb false s
  · rfl

/-! ### `MIXKEY` and `MIXFRAME` (R103, R105) -/

theorem CountsStep.of_more {p next : Phase} {limit : Nat} {s t : State} (h : CountsStep p next limit s t)
    (hmore : s.count.toNat + 1 ≠ limit) : t.phase = p ∧ t.count = s.count + 1#8 := by
  cases h with
  | last hlast => exact absurd hlast hmore
  | more _ phase count => exact ⟨phase, count⟩

/-- One bit is mixed in, as the `COUNT + 1`-st of `limit` in phase `p`, and answered with `0x07`. -/
structure MixesBit (b : Bool) (p next : Phase) (limit : Nat) (s t : State) : Prop where
  mixed : MixedBy b s t
  counts : CountsStep p next limit s t
  klen : t.klen = s.klen
  flen : t.flen = s.flen
  answers : Answers s t
  rspWord : t.rspWord = 0x07#8

/-- The body that the two mixing commands share. -/
theorem mixesBit_respond_progress_mixAll (b : Bool) (p next : Phase) (limit : Nat) (s : State) :
    MixesBit b p next limit s
      (respond false false 0b111#3 (progress p next limit (mixAll Config.std b s))) where
  mixed := by simpa only [MixedBy, respond_r1, respond_r2, respond_r3, progress_r1, progress_r2, progress_r3]
    using mixedBy_mixAll b s
  counts := countsStep_respond_progress _ _ _ _ _ _ (mixAll_count ..)
  klen := by simp
  flen := by simp
  answers := ⟨rfl, by simp, by simp, by simp⟩
  rspWord := rfl

theorem mixkeyCmd_mixesBit {s : State} (home : s.phase = .zeroed ∨ s.phase = .keyMixing) (b : Bool) :
    MixesBit b .keyMixing .frameMixing s.klen.toNat s (mixkeyCmd Config.std b s) := by
  rw [mixkeyCmd, gated_of_none ((phaseError_mixkey_eq_none _).2 home)]
  exact mixesBit_respond_progress_mixAll b _ _ _ s

theorem mixframeCmd_mixesBit {s : State} (home : s.phase = .frameMixing) (b : Bool) :
    MixesBit b .frameMixing .discardClocking s.flen.toNat s (mixframeCmd Config.std b s) := by
  rw [mixframeCmd, gated_of_none ((phaseError_single_eq_none _ _).2 home)]
  exact mixesBit_respond_progress_mixAll b _ _ _ s

/-- Settles O29: the home phases by `mixkeyCmd_mixesBit`, the others by the phase check of O46. -/
theorem mixkeyMixesOneKeyBit : Obligations.MixkeyMixesOneKeyBit := by
  refine ⟨fun b s _ home => ?_, fun b s hs => exec_of_early nofun ?_, fun b s hs => exec_of_late nofun ?_,
    fun w hop => decode_of_opcode_mixkey hop⟩
  · obtain ⟨mixed, counts, klen, flen, ⟨rspValid, inputs, draws, report⟩, rspWord⟩ :=
      mixkeyCmd_mixesBit home b
    exact ⟨_, rfl, mixed, counts.of_last, counts.of_more, klen, flen, rspValid, rspWord, inputs, draws, report⟩
  · rw [hs]; decide +revert
  · obtain hs | hs | hs := hs <;> rw [hs] <;> decide +revert

/-- Settles O30: the home phase by `mixframeCmd_mixesBit`, the others by the phase check of O46. -/
theorem mixframeMixesOneFrameBit : Obligations.MixframeMixesOneFrameBit := by
  refine ⟨fun b s _ home => ?_, fun b s hs => exec_of_early nofun ?_, fun b s hs => exec_of_late nofun ?_,
    fun w hop => decode_of_opcode_mixframe hop⟩
  · obtain ⟨mixed, counts, klen, flen, ⟨rspValid, inputs, draws, report⟩, rspWord⟩ :=
      mixframeCmd_mixesBit home b
    exact ⟨_, rfl, mixed, counts.of_last, counts.of_more, klen, flen, rspValid, rspWord, inputs, draws, report⟩
  · obtain hs | hs | hs := hs <;> rw [hs] <;> decide +revert
  · obtain hs | hs := hs <;> rw [hs] <;> decide +revert

/-! ### `DISCARD` (R107) -/

theorem discardCmd_of_home {s : State} (home : s.phase = .discardClocking) (c : Config) : discardCmd c s =
    respond false (decideAndClock c s).majority (decideAndClock c s).clocked
      (progress .discardClocking .ready c.ndisc (decideAndClock c s).after) :=
  gated_of_none ((phaseError_single_eq_none _ _).2 home)

theorem majorityClocked_discardCmd {s : State} (home : s.phase = .discardClocking) :
    MajorityClocked s (discardCmd Config.std s) := by
  rw [discardCmd_of_home home]
  simpa only [MajorityClocked, respond_r1, respond_r2, respond_r3, progress_r1, progress_r2, progress_r3]
    using majorityClocked_decideAndClock s

theorem discardCmd_succeeds {s : State} (home : s.phase = .discardClocking) :
    rspErr (discardCmd Config.std s).rspWord = 0#3 := by
  rw [discardCmd_of_home home]
  exact rspErr_respond ..

/-- Settles O31: in `DiscardClocking` the command succeeds, so that its response is that of O49 and its control state
that of O50; elsewhere the phase check of O46 refuses it. -/
theorem discardClocksAndCounts : Obligations.DiscardClocksAndCounts := by
  refine ⟨fun s home => ?_, fun s hs => exec_of_early nofun ?_, fun s hs => exec_of_late nofun ?_,
    fun w hop => decode_of_opcode_discard hop⟩
  · have success := discardCmd_succeeds home
    have outcome := discardCmd_responseOutcome s
    obtain ⟨rspValid, inputs, draws, report⟩ := outcome.answers
    obtain ⟨err, -⟩ | ⟨-, control⟩ := discardCmd_controlOutcome s
    · exact absurd success err
    · cases control with
      | discard _ counts klen flen =>
        exact ⟨_, rfl, majorityClocked_discardCmd home, outcome.response_of_succeeded success, counts.of_last,
          counts.of_more, klen, flen, rspValid, inputs, draws, report⟩
  · obtain hs | hs | hs | hs := hs <;> rw [hs] <;> decide +revert
  · rw [hs]; decide +revert

end Sys2Proof.Machine
end

section
/-! `RUNALL` as one transition and as words issued one a period (42_init_sequencer.md section 3): no engine command
reads anything but the engine's state, so that the words run as the commands they decode to, and `ZERO` makes two
engines alike. -/

namespace Sys2Proof.Machine

open Sys2Proof

/-! ### No engine command reads what lies outside the engine -/

/-- The engine state of `s` with everything else (response port, host, driver, resets) as in `o`. -/
def withOutside (s o : State) : State :=
  { o with r1 := s.r1, r2 := s.r2, r3 := s.r3, phase := s.phase, count := s.count, klen := s.klen, flen := s.flen }

theorem SameEngine.eq_withOutside {s t : State} (h : SameEngine s t) : t = withOutside s t := by
  obtain ⟨h1, h2, h3, hp, hc, hk, hf⟩ := h
  rw [withOutside, h1, h2, h3, hp, hc, hk, hf]

/-- `f` computes the engine state and its answer from the engine state alone, and writes nothing outside but the
answer. -/
def IgnoresOutside (f : State → State) : Prop :=
  ∀ s o, f (withOutside s o) = withOutside (f s) (answered o (f s).rspWord)

theorem progress_withOutside (p q : Phase) (n : Nat) (s o : State) :
    progress p q n (withOutside s o) = withOutside (progress p q n s) o := by
  have same_count : (withOutside s o).count = s.count := rfl
  by_cases h : s.count.toNat + 1 = n
  · rw [progress, progress, same_count, if_pos h, if_pos h]
    rfl
  · rw [progress, progress, same_count, if_neg h, if_neg h]
    rfl

theorem decideAndClock_withOutside (c : Config) (s o : State) : decideAndClock c (withOutside s o) =
    { decideAndClock c s with after := withOutside (decideAndClock c s).after o } := by
  rw [decideAndClock_eq, decideAndClock_eq]
  rfl

theorem gated_ignoresOutside {first last : Phase} {body : State → State} (hbody : IgnoresOutside body) :
    IgnoresOutside (gated first last body) := by
  intro s o
  obtain ⟨e, he, hg⟩ | ⟨hn, hg⟩ := gated_cases first last body s <;> rw [hg]
  · exact gated_of_some (s := withOutside s o) he
  · exact (gated_of_none (s := withOutside s o) hn).trans (hbody s o)

theorem zeroCmd_ignoresOutside (k f : Len) : IgnoresOutside (zeroCmd k f) := by
  intro s o
  by_cases h : k = 0#8 ∨ f = 0#8
  · simp only [zeroCmd_of_empty h]
    rfl
  · obtain ⟨hk, hf⟩ := not_or.1 h
    simp only [zeroCmd_of_nonempty hk hf]
    rfl

theorem mixkeyCmd_ignoresOutside (c : Config) (b : Bool) : IgnoresOutside (mixkeyCmd c b) :=
  gated_ignoresOutside fun s o => congrArg _ (progress_withOutside _ _ s.klen.toNat (mixAll c b s) o)

theorem mixframeCmd_ignoresOutside (c : Config) (b : Bool) : IgnoresOutside (mixframeCmd c b) :=
  gated_ignoresOutside fun s o => congrArg _ (progress_withOutside _ _ s.flen.toNat (mixAll c b s) o)

theorem discardCmd_ignoresOutside (c : Config) : IgnoresOutside (discardCmd c) :=
  gated_ignoresOutside fun s o => by
    simp only [decideAndClock_withOutside, progress_withOutside]
    rfl

theorem nextbitCmd_ignoresOutside (c : Config) : IgnoresOutside (nextbitCmd c) :=
  gated_ignoresOutside fun s o => by
    simp only [decideAndClock_withOutside]
    rfl

theorem regBit_withOutside (k : RegName) (i : Nat) (s o : State) : regBit k i (withOutside s o) = regBit k i s := by
  cases k <;> rfl

theorem observeSelected_ignoresOutside (sel : BitVec 2) {acc : State → RegName → Except Err Bool}
    (h : ∀ s o, acc (withOutside s o) = acc s) : IgnoresOutside fun s => observeSelected sel (acc s) s := by
  intro s o
  simp only [h]
  cases hk : selReg sel with
  | none => simp only [observeSelected_of_reserved hk]; rfl
  | some k =>
    cases hb : acc s k with
    | error e => simp only [observeSelected_of_error hk hb]; rfl
    | ok b => simp only [observeSelected_of_ok hk hb]; rfl

/-- Every engine command is a function of the state that ignores what lies outside the engine. -/
theorem exists_exec_eq_ignoresOutside {i : Instr} (hi : i.isCore = true) :
    ∃ f, IgnoresOutside f ∧ ∀ s, exec i s = .next (f s) := by
  cases i with
  | runall => cases hi
  | zero k f => exact ⟨_, zeroCmd_ignoresOutside k f, fun _ => rfl⟩
  | mixkey b => exact ⟨_, mixkeyCmd_ignoresOutside _ b, fun _ => rfl⟩
  | mixframe b => exact ⟨_, mixframeCmd_ignoresOutside _ b, fun _ => rfl⟩
  | discard => exact ⟨_, discardCmd_ignoresOutside _, fun _ => rfl⟩
  | nextbit => exact ⟨_, nextbitCmd_ignoresOutside _, fun _ => rfl⟩
  | read sel idx =>
    refine ⟨_, observeSelected_ignoresOutside sel fun s o => funext fun k => ?_, fun _ => rfl⟩
    simp only [bitAt, regBit_withOutside]
  | rdclk sel =>
    refine ⟨_, observeSelected_ignoresOutside sel fun s o => funext fun k => ?_, fun _ => rfl⟩
    simp only [clockBit, regBit_withOutside]
  | rdout sel =>
    refine ⟨_, observeSelected_ignoresOutside sel fun s o => funext fun k => ?_, fun _ => rfl⟩
    simp only [outputBit, regBit_withOutside]

theorem exec_withOutside {i : Instr} (hi : i.isCore = true) {s t : State} (h : exec i s = .next t) (o : State) :
    exec i (withOutside s o) = .next (withOutside t (answered o t.rspWord)) := by
  obtain ⟨f, ignores, hf⟩ := exists_exec_eq_ignoresOutside hi
  rw [hf] at h ⊢
  cases h
  rw [ignores]

/-! ### Engines in the same state stay alike -/

/-- Same engine state and same last response. -/
structure SameAnswer (s t : State) : Prop where
  engine : SameEngine s t
  rspWord : s.rspWord = t.rspWord

/-- From the same engine state a command gives the same engine state and the same response. -/
theorem exec_sameAnswer {i : Instr} (hi : i.isCore = true) {s s' : State} (h : SameEngine s s') :
    ∃ t t', exec i s = .next t ∧ exec i s' = .next t' ∧ SameAnswer t t' := by
  obtain ⟨t, ht⟩ := exists_exec_of_isCore hi s
  have ht' : exec i (withOutside s s') = .next (withOutside t (answered s' t.rspWord)) :=
    exec_withOutside hi ht s'
  rw [← h.eq_withOutside] at ht'
  exact ⟨t, _, ht, ht', ⟨rfl, rfl, rfl, rfl, rfl, rfl, rfl⟩, rfl⟩

theorem runSeq_sameAnswer {is : List Instr} (hcore : ∀ i ∈ is, i.isCore = true) {s s' : State}
    (h : SameAnswer s s') : ∃ t t', runSeq is s = .next t ∧ runSeq is s' = .next t' ∧ SameAnswer t t' := by
  induction is generalizing s s' with
  | nil => exact ⟨s, s', rfl, rfl, h⟩
  | cons i is ih =>
    obtain ⟨u, u', hu, hu', alike⟩ := exec_sameAnswer (hcore i List.mem_cons_self) h.engine
    rw [runSeq_cons_next hu, runSeq_cons_next hu']
    exact ih (fun j hj => hcore j (List.mem_cons_of_mem _ hj)) alike

/-- The first command of a sequence makes the answers alike, so that the states before it need only agree in the
engine. -/
theorem runSeq_cons_sameAnswer {i : Instr} {is : List Instr} (hcore : ∀ j ∈ i :: is, j.isCore = true)
    {s s' : State} (h : SameEngine s s') :
    ∃ t t', runSeq (i :: is) s = .next t ∧ runSeq (i :: is) s' = .next t' ∧ SameAnswer t t' := by
  obtain ⟨u, u', hu, hu', alike⟩ := exec_sameAnswer (hcore i List.mem_cons_self) h
  rw [runSeq_cons_next hu, runSeq_cons_next hu']
  exact runSeq_sameAnswer (fun j hj => hcore j (List.mem_cons_of_mem _ hj)) alike

/-- Nothing before a successful `ZERO` has influence on anything after it (R101). -/
theorem runSeq_zero_sameAnswer {k f : Len} (hk : k ≠ 0#8) (hf : f ≠ 0#8) {is : List Instr}
    (hcore : ∀ i ∈ is, i.isCore = true) (s s' : State) :
    ∃ t t', runSeq (.zero k f :: is) s = .next t ∧ runSeq (.zero k f :: is) s' = .next t' ∧
      SameAnswer t t' := by
  refine runSeq_sameAnswer (s := zeroCmd k f s) (s' := zeroCmd k f s') hcore ?_
  rw [zeroCmd_of_nonempty hk hf, zeroCmd_of_nonempty hk hf]
  exact ⟨⟨rfl, rfl, rfl, rfl, rfl, rfl, rfl⟩, rfl⟩

theorem keystream_succ (n : Nat) (s : State) : keystream (n + 1) s =
    rspBit (nextbitCmd Config.std s).rspWord :: keystream n (nextbitCmd Config.std s) := rfl

theorem length_keystream (n : Nat) (s : State) : (keystream n s).length = n := by
  induction n generalizing s with
  | zero => rfl
  | succ n ih => rw [keystream_succ, List.length_cons, ih]

theorem keystream_of_sameEngine (n : Nat) {s s' : State} (h : SameEngine s s') :
    keystream n s = keystream n s' := by
  induction n generalizing s s' with
  | zero => rfl
  | succ n ih =>
    obtain ⟨t, t', ht, ht', alike⟩ := exec_sameAnswer (i := .nextbit) rfl h
    cases ht
    cases ht'
    rw [keystream_succ, keystream_succ, alike.rspWord, ih alike.engine]

/-! ### Words issued one a period run as the commands they decode to -/

/-- A command does not look at the host's later inputs. -/
theorem exec_with_inputs {i : Instr} (hi : i.isCore = true) {s t : State} (h : exec i s = .next t)
    (rest : List HostInput) : exec i { s with inputs := rest } = .next { t with inputs := rest } := by
  obtain ⟨rspValid, -, draws, report⟩ := (exec_responseOutcome hi h).answers
  refine (exec_withOutside hi h { s with inputs := rest }).trans (congrArg _ ?_)
  simp only [withOutside, answered, rspValid, draws, report]

theorem runSteps_issue {ws : List CmdWord} {s : State} {rest : List HostInput}
    (h : s.inputs = issue ws ++ rest) :
    runSteps ws.length s = runSeq (ws.map decode) { s with inputs := rest } := by
  induction ws generalizing s with
  | nil =>
    have : s.inputs = rest := h
    subst this
    rfl
  | cons w ws ih =>
    have core : (decode w).isCore = true := isCore_decode w
    obtain ⟨t, ht⟩ := exists_exec_of_isCore core { s with inputs := issue ws ++ rest }
    have inputs : t.inputs = issue ws ++ rest := (exec_responseOutcome core ht).answers.inputs
    have hstep : step s = .next t := (step_of_presented_word h).trans ht
    calc runSteps (w :: ws).length s = runSteps ws.length t := runSteps_succ_of_step hstep _
      _ = runSeq (ws.map decode) { t with inputs := rest } := ih inputs
      _ = runSeq ((w :: ws).map decode) { s with inputs := rest } :=
        (runSeq_cons_next (exec_with_inputs core ht rest) _).symm

/-! ### The commands of a `RUNALL` (R108) -/

/-- Engine commands put into words decode to themselves, in order. -/
theorem map_decode_filterMap_encodeWord {is : List Instr} (h : ∀ i ∈ is, i.isCore = true) :
    (is.filterMap encodeWord).map decode = is := by
  induction is with
  | nil => rfl
  | cons i is ih =>
    obtain ⟨w, hw⟩ : ∃ w, encodeWord i = some w := by
      have hi : i.isCore = true := h i List.mem_cons_self
      cases i with
      | runall => cases hi
      | _ => exact ⟨_, rfl⟩
    rw [List.filterMap_cons_some hw, List.map_cons, decode_encodeWord hw,
      ih fun j hj => h j (List.mem_cons_of_mem _ hj)]

theorem map_decode_encode_runall {key frame : List Bool} (hk : key ≠ []) (hf : frame ≠ [])
    (hd : declarable key frame = true) :
    (encode (.runall key frame)).map decode = runallCommands Config.std.ndisc key frame := by
  have expanded : expand (.runall key frame) = runallCommands Config.std.ndisc key frame := by
    simp [expand, hk, hf, hd]
  rw [encode, expanded]
  exact map_decode_filterMap_encodeWord fun _ => Laws.WordCount.isCore_of_mem_runallCommands

theorem length_encode_runall {key frame : List Bool} (hk : key ≠ []) (hf : frame ≠ [])
    (hd : declarable key frame = true) :
    (encode (.runall key frame)).length = 1 + key.length + frame.length + 100 := by
  rw [(Laws.WordCount.runall key frame).2 key frame rfl, if_neg (by simp [hk, hf, Instr.wf, hd])]
  rfl

/-- A command repeated over a list of operands folds its meaning over the list. -/
theorem runSeq_map {α : Type} {cmd : α → Instr} {meaning : α → State → State}
    (h : ∀ a s, exec (cmd a) s = .next (meaning a s)) (as : List α) (s : State) :
    runSeq (as.map cmd) s = .next (as.foldl (fun t a => meaning a t) s) := by
  induction as generalizing s with
  | nil => rfl
  | cons a as ih =>
    rw [List.map_cons, runSeq_cons_next (h a s), ih]
    rfl

theorem runSeq_replicate_discard (n : Nat) (s : State) :
    runSeq (List.replicate n .discard) s = .next (discardTimes Config.std n s) := by
  induction n generalizing s with
  | zero => rfl
  | succ n ih => rw [List.replicate_succ, runSeq_cons_next (exec_discard s), ih, discardTimes_succ]

/-- The one transition of `RUNALL` is its command sequence. -/
theorem runSeq_runallCommands (key frame : List Bool) (s : State) :
    runSeq (runallCommands Config.std.ndisc key frame) s = .next (runallCmd Config.std key frame s) := by
  rw [runallCommands, runSeq_cons_next (exec_zero ..), List.append_assoc,
    runSeq_append_next (runSeq_map exec_mixkey key _), runSeq_append_next (runSeq_map exec_mixframe frame _),
    runSeq_replicate_discard]
  rfl

theorem declaredLen_ne_zero {bits : List Bool} (hne : bits ≠ []) (h : bits.length ≤ 255) :
    declaredLen bits ≠ 0#8 := by
  intro h0
  have hlen : bits.length = 0 := by rw [← declaredLen_toNat h, h0]; rfl
  exact hne (List.eq_nil_of_length_eq_zero hlen)

/-- A `RUNALL` that is issued ends alike from any two states. -/
theorem runallCmd_sameAnswer {key frame : List Bool} (hk : key ≠ []) (hf : frame ≠ [])
    (hkl : key.length ≤ 255) (hfl : frame.length ≤ 255) (s s' : State) :
    SameAnswer (runallCmd Config.std key frame s) (runallCmd Config.std key frame s') := by
  have core : ∀ i ∈ runallCommands Config.std.ndisc key frame, i.isCore = true :=
    fun _ => Laws.WordCount.isCore_of_mem_runallCommands
  obtain ⟨t, t', ht, ht', alike⟩ := runSeq_zero_sameAnswer (declaredLen_ne_zero hk hkl)
    (declaredLen_ne_zero hf hfl) (fun i hi => core i (List.mem_cons_of_mem _ hi)) s s'
  obtain rfl := Host.Outcome.next.inj ((runSeq_runallCommands key frame s).symm.trans ht)
  obtain rfl := Host.Outcome.next.inj ((runSeq_runallCommands key frame s').symm.trans ht')
  exact alike

/-- The words of a `RUNALL`, issued one a period, do what its one transition does, the driver's report apart. -/
theorem runSteps_issue_runall {key frame : List Bool} (hk : key ≠ []) (hf : frame ≠ [])
    (hkl : key.length ≤ 255) (hfl : frame.length ≤ 255) {s : State} {rest : List HostInput}
    (h : s.inputs = issue (encode (.runall key frame)) ++ rest) :
    runSteps (1 + key.length + frame.length + 100) s =
      .next (runallCmd Config.std key frame { s with inputs := rest }) := by
  have hd : declarable key frame = true := (declarable_iff key frame).2 ⟨hkl, hfl⟩
  rw [← length_encode_runall hk hf hd, runSteps_issue h, map_decode_encode_runall hk hf hd, runSeq_runallCommands]

/-- Settles O40: the words run as the commands they decode to, these are the one transition of `RUNALL`, which begins
with `ZERO` and so ends alike from any state; engines that are alike give the same keystream. -/
theorem runallEqualsStepwise : Obligations.RunallEqualsStepwise := by
  intro key frame s s' rest hk hf hkl hfl hin
  have hd : declarable key frame = true := (declarable_iff key frame).2 ⟨hkl, hfl⟩
  have alike : SameEngine (runallCmd Config.std key frame { s with inputs := rest })
      (reportDriver .completed (runallCmd Config.std key frame s')) :=
    sameEngine_reportDriver (runallCmd_sameAnswer hk hf hkl hfl _ s').engine .completed
  refine ⟨_, _, runSteps_issue_runall hk hf hkl hfl hin, execRunall_of_declarable hk hf hd s', alike,
    fun n => ?_, fun n => ⟨length_keystream n _, keystream_of_sameEngine n alike⟩, fun plaintext => ?_⟩
  · have core : ∀ i ∈ Instr.nextbit :: List.replicate n .nextbit, i.isCore = true := fun i hi => by
      rw [List.eq_of_mem_replicate (n := n + 1) hi]; rfl
    obtain ⟨u, u', hu, hu', same⟩ := runSeq_cons_sameAnswer core alike
    exact ⟨u, u', hu, hu', same.engine, same.rspWord⟩
  · rw [keystream_of_sameEngine _ alike]

end Sys2Proof.Machine
end

section
/-! The keystream generator (43_keystream_generator.md): what `NEXTBIT` does in `Ready` and outside it, and the
statement of R130. -/

namespace Sys2Proof.Machine

open Sys2Proof

/-- `Ready` is the last phase, so that no command whose home it is can overrun (R102). -/
theorem phaseRank_lt_ready {p : Phase} (h : p ≠ .ready) : phaseRank p < phaseRank .ready := by
  revert h
  cases p <;> decide

theorem nextbitCmd_of_ready {s : State} (home : s.phase = .ready) (c : Config) : nextbitCmd c s =
    respond (outputXor c (decideAndClock c s).after) (decideAndClock c s).majority (decideAndClock c s).clocked
      (decideAndClock c s).after :=
  gated_of_none ((phaseError_single_eq_none _ _).2 home)

theorem exec_nextbit_of_not_ready {s : State} (h : s.phase ≠ .ready) :
    exec .nextbit s = .next (answered s 0x20#8) :=
  congrArg _ (gated_of_early (phaseRank_lt_ready h))

/-- The output taps of the spec's instance (R11, R74). -/
theorem outputXor_std (s : State) :
    outputXor Config.std s = (s.r1.getLsbD 18 ^^ s.r2.getLsbD 21 ^^ s.r3.getLsbD 22) := rfl

/-- Settles O32: in `Ready` the command is one majority cycle and a response, which reads the output taps of the state
after the cycle and leaves it as it is; every other phase lies before `Ready`. -/
theorem nextbitMakesOneKeystreamBit : Obligations.NextbitMakesOneKeystreamBit := by
  refine ⟨fun s home => ?_, fun s away => exec_nextbit_of_not_ready away, fun w hop => decode_of_opcode_nextbit hop⟩
  rw [exec_nextbit, nextbitCmd_of_ready home]
  refine ⟨_, rfl, ?clocked, ?response, (decideAndClock_after_phase ..).trans home, decideAndClock_after_count ..,
    decideAndClock_after_klen .., decideAndClock_after_flen .., rfl, decideAndClock_after_inputs ..,
    decideAndClock_after_draws .., decideAndClock_after_driverReport ..⟩
  case clocked =>
    simpa only [MajorityClocked, respond_r1, respond_r2, respond_r3] using majorityClocked_decideAndClock s
  case response =>
    rw [outputXor_std]
    exact cycleResponse_decideAndClock _ s

end Sys2Proof.Machine
end

section
/-! The observation commands (44_observation_commands.md): `READ` inside a register and outside it, `RDCLK` and
`RDOUT` as `READ` of a constant index, and the statements of R140 to R142. -/

namespace Sys2Proof.Machine

open Sys2Proof

/-! ### The three commands on the register a select names -/

theorem readCmd_of_inside {sel : BitVec 2} {k : RegName} {idx : BitVec 5} (hk : selReg sel = some k)
    (h : idx.toNat < k.len) (s : State) : readCmd sel idx s = answered s (bitResponse (regBit k idx.toNat s)) :=
  observeSelected_of_ok (acc := fun k => bitAt k idx.toNat s) hk (bitAt_of_inside h s) s

theorem exec_read_of_inside {sel : BitVec 2} {k : RegName} {idx : BitVec 5} (hk : selReg sel = some k)
    (h : idx.toNat < k.len) (s : State) :
    exec (.read sel idx) s = .next (answered s (bitResponse (regBit k idx.toNat s))) :=
  congrArg Host.Outcome.next (readCmd_of_inside hk h s)

theorem exec_read_of_outside {sel : BitVec 2} {k : RegName} {idx : BitVec 5} (hk : selReg sel = some k)
    (h : k.len ≤ idx.toNat) (s : State) : exec (.read sel idx) s = .next (answered s 0x80#8) :=
  congrArg Host.Outcome.next (readCmd_of_outside hk h s)

theorem exec_rdclk_of_select {sel : BitVec 2} {k : RegName} (hk : selReg sel = some k) (s : State) :
    exec (.rdclk sel) s = .next (answered s (bitResponse (regBit k (Config.std.wiring k).clk s))) :=
  congrArg Host.Outcome.next (observeSelected_of_ok hk rfl s)

theorem exec_rdout_of_select {sel : BitVec 2} {k : RegName} (hk : selReg sel = some k) (s : State) :
    exec (.rdout sel) s = .next (answered s (bitResponse (regBit k (Config.std.wiring k).out s))) :=
  congrArg Host.Outcome.next (observeSelected_of_ok hk rfl s)

/-! ### `RDCLK` and `RDOUT` as `READ` of a constant index (R141, R142) -/

/-- A command that reads stage `tap k` of the selected register, as `RDCLK` and `RDOUT` do, is `READ` of that index. -/
theorem observeSelected_tap_eq_readCmd {sel : BitVec 2} {k : RegName} {idx : BitVec 5} {tap : RegName → Nat}
    (hk : selReg sel = some k) (hidx : idx.toNat = tap k) (inside : tap k < k.len) (s : State) :
    observeSelected sel (fun k => .ok (regBit k (tap k) s)) s = readCmd sel idx s := by
  rw [observeSelected_of_ok hk rfl, readCmd_of_inside hk (hidx ▸ inside), hidx]

theorem exec_rdclk_eq_read {sel : BitVec 2} {k : RegName} {idx : BitVec 5} (hk : selReg sel = some k)
    (hidx : idx.toNat = (Config.std.wiring k).clk) (s : State) : exec (.rdclk sel) s = exec (.read sel idx) s :=
  congrArg Host.Outcome.next (observeSelected_tap_eq_readCmd hk hidx (clk_std_lt_len k) s)

theorem exec_rdout_eq_read {sel : BitVec 2} {k : RegName} {idx : BitVec 5} (hk : selReg sel = some k)
    (hidx : idx.toNat = (Config.std.wiring k).out) (s : State) : exec (.rdout sel) s = exec (.read sel idx) s :=
  congrArg Host.Outcome.next (observeSelected_tap_eq_readCmd hk hidx (out_std_lt_len k) s)

/-! ### The three `RDOUT` results after a `NEXTBIT` (R142) -/

theorem rspBit_bitResponse (b : Bool) : rspBit (bitResponse b) = b :=
  responseWord_bit b ▸ rspBit_responseWord ..

/-- `NEXTBIT` reports the output XOR of the registers it leaves (R130, R131). -/
theorem rspBit_nextbitCmd_of_ready {s : State} (home : s.phase = .ready) (c : Config) :
    rspBit (nextbitCmd c s).rspWord = outputXor c (nextbitCmd c s) := by
  rw [nextbitCmd_of_ready home, respond_rspWord, rspBit_responseWord]
  rfl

/-- Three `RDOUT`s one after another, each on the state the one before left: none disturbs what the next one reads,
and the XOR of their results is the output XOR of the first state (R142). -/
theorem rdout_results_xor (t : State) : ∃ u1 u2 u3, exec (.rdout 0#2) t = .next u1 ∧
    exec (.rdout 1#2) u1 = .next u2 ∧ exec (.rdout 2#2) u2 = .next u3 ∧
    outputXor Config.std t = (rspBit u1.rspWord ^^ rspBit u2.rspWord ^^ rspBit u3.rspWord) := by
  refine ⟨_, _, _, exec_rdout_of_select (k := .r1) rfl t, exec_rdout_of_select (k := .r2) rfl _,
    exec_rdout_of_select (k := .r3) rfl _, ?_⟩
  simp only [answered_rspWord, rspBit_bitResponse]
  rfl

/-! ### The statements -/

/-- Settles O33: on each register the index lies inside or outside; the reserved select is checked before it. -/
theorem readAnswersTheSelectedBit : Obligations.ReadAnswersTheSelectedBit := fun _ s =>
  ⟨fun inside => exec_read_of_inside (k := .r1) rfl inside s,
    fun outside => exec_read_of_outside (k := .r1) rfl outside s,
    fun inside => exec_read_of_inside (k := .r2) rfl inside s,
    fun outside => exec_read_of_outside (k := .r2) rfl outside s,
    fun inside => exec_read_of_inside (k := .r3) rfl inside s,
    fun outside => exec_read_of_outside (k := .r3) rfl outside s,
    congrArg Host.Outcome.next (observeSelected_three _ s), fun _ hop => decode_of_opcode_read hop⟩

/-- Settles O34: the constant index is the clock tap of the spec's instance. -/
theorem rdclkAnswersTheClockBit : Obligations.RdclkAnswersTheClockBit := fun s =>
  ⟨exec_rdclk_of_select (k := .r1) rfl s, exec_rdclk_of_select (k := .r2) rfl s, exec_rdclk_of_select (k := .r3) rfl s,
    congrArg Host.Outcome.next (observeSelected_three _ s),
    exec_rdclk_eq_read (k := .r1) rfl rfl s, exec_rdclk_eq_read (k := .r2) rfl rfl s,
    exec_rdclk_eq_read (k := .r3) rfl rfl s, fun _ hop => decode_of_opcode_rdclk hop⟩

/-- Settles O35: the constant index is the output tap of the spec's instance; a `NEXTBIT` reports the output XOR of
the state it leaves, which is the state the three `RDOUT`s read. -/
theorem rdoutAnswersTheOutputBit : Obligations.RdoutAnswersTheOutputBit := by
  refine ⟨fun s => ⟨exec_rdout_of_select (k := .r1) rfl s, exec_rdout_of_select (k := .r2) rfl s,
    exec_rdout_of_select (k := .r3) rfl s, congrArg Host.Outcome.next (observeSelected_three _ s),
    exec_rdout_eq_read (k := .r1) rfl rfl s, exec_rdout_eq_read (k := .r2) rfl rfl s,
    exec_rdout_eq_read (k := .r3) rfl rfl s⟩, fun s home => ?_, fun _ hop => decode_of_opcode_rdout hop⟩
  obtain ⟨u1, u2, u3, h1, h2, h3, hxor⟩ := rdout_results_xor (nextbitCmd Config.std s)
  exact ⟨_, u1, u2, u3, exec_nextbit s, h1, h2, h3, (rspBit_nextbitCmd_of_ready home _).trans hxor⟩

end Sys2Proof.Machine
end

section
/-! What a failed engine command leaves behind (60_exceptions.md section 3), and the statement of R175 and R176. -/

namespace Sys2Proof.Machine

open Sys2Proof

/-- An engine command whose response carries an error code has done nothing but fail (R175). -/
theorem ResponseOutcome.exists_eq_failWith {i : Instr} {s t : State} (h : ResponseOutcome i s t)
    (herr : rspErr t.rspWord ≠ 0#3) : ∃ e, t = failWith e s := by
  cases h with
  | failed e fails => exact ⟨e, fails⟩
  | succeeded _ err => exact absurd err herr

/-- Failing is answering, and the answer is the error field it carries, shifted left by five (R176). -/
theorem failWith_eq_answered_rspErr (e : Err) (s : State) :
    failWith e s = answered s ((rspErr (failWith e s).rspWord).zeroExtend 8 <<< 5) := by
  rw [failWith_rspWord, rspErr_responseWord, ← responseWord_fail]
  exact failWith_eq_answered e s

/-- Settles O47: of the outcomes of an engine command (O49) only the failure carries an error code, and `failWith`
writes nothing but the response port. -/
theorem failedCommandChangesNothing : Obligations.FailedCommandChangesNothing := by
  intro i s t hi h herr
  obtain ⟨e, rfl⟩ := (exec_responseOutcome hi h).exists_eq_failWith herr
  exact failWith_eq_answered_rspErr e s

end Sys2Proof.Machine
end

section
/-! Runs of periods in which no command is taken (70_reset_and_hazards.md sections 1 and 4), and the statements of
R190, R192 and R201. -/

namespace Sys2Proof.Machine

open Sys2Proof

/-! ### Any number of periods without a command -/

/-- After one period with the host silent, further ones change nothing: the response is already withdrawn. -/
theorem runSteps_idlePeriod_of_no_input (n : Nat) {s : State} (h : s.inputs = []) :
    runSteps n (idlePeriod s) = .next (idlePeriod s) := by
  induction n with
  | zero => rfl
  | succ n ih => exact (runSteps_succ_of_step (step_of_no_input (s := idlePeriod s) h) n).trans ih

theorem runSteps_of_no_input (n : Nat) {s : State} (h : s.inputs = []) :
    runSteps (n + 1) s = .next (idlePeriod s) :=
  (runSteps_succ_of_step (step_of_no_input h) n).trans (runSteps_idlePeriod_of_no_input n h)

/-- After one period without a command, further periods with `cmd_valid = 0` only consume the host's inputs. -/
theorem runSteps_idlePeriod_of_unpresented (ws : List CmdWord) (s : State) (rest : List HostInput) :
    runSteps ws.length (idlePeriod { s with inputs := ws.map (.period false false) ++ rest }) =
      .next (idlePeriod { s with inputs := rest }) := by
  induction ws with
  | nil => rfl
  | cons w ws ih => exact (runSteps_succ_of_step (step_of_unpresented_period rfl) ws.length).trans ih

theorem runSteps_of_unpresented {ws : List CmdWord} (hne : ws ≠ []) {s : State} {rest : List HostInput}
    (h : s.inputs = ws.map (.period false false) ++ rest) :
    runSteps ws.length s = .next (idlePeriod { s with inputs := rest }) := by
  cases ws with
  | nil => exact absurd rfl hne
  | cons w ws =>
    exact (runSteps_succ_of_step (step_of_unpresented_period h) ws.length).trans
      (runSteps_idlePeriod_of_unpresented ws s rest)

/-! ### The statements -/

/-- Settles O9: any positive number of periods without a command is one such period, which keeps the engine's state. -/
theorem idleEngineHoldsItsState : Obligations.IdleEngineHoldsItsState :=
  ⟨fun n s h => ⟨_, runSteps_of_no_input n h, sameEngine_idlePeriod s s.inputs, rfl, h, rfl, rfl⟩,
    fun _ s rest hne h => ⟨_, runSteps_of_unpresented hne h, sameEngine_idlePeriod s rest, rfl, rfl, rfl, rfl⟩⟩

/-- Settles O3: the period is a hardware reset whatever `cmd_valid` and `cmd_word` are, and the ports are masked by
`rst`. -/
theorem hardwareResetPeriod : Obligations.HardwareResetPeriod :=
  ⟨fun _ _ _ _ h => ⟨_, step_of_reset_period h, rfl, rfl, rfl, rfl, rfl, rfl⟩,
    fun s => ⟨rfl, Bool.and_false s.rspValid⟩⟩

end Sys2Proof.Machine
end

section
/-! The state invariants of 10_state.md section 6, phase by phase, and what every command of a sequence keeps; the
statements on the invariants. -/

namespace Sys2Proof.Machine

open Sys2Proof

/-! ### A property that every command keeps holds after a sequence, and after `RUNALL` -/

theorem runSeq_invariant {P : State → Prop} {is : List Instr}
    (keeps : ∀ i ∈ is, ∀ s t, P s → exec i s = .next t → P t) {s t : State} (hs : P s)
    (h : runSeq is s = .next t) : P t := by
  induction is generalizing s with
  | nil => cases h; exact hs
  | cons i is ih =>
    simp only [runSeq] at h
    cases hi : exec i s with
    | next u =>
      rw [hi] at h
      exact ih (fun j hj => keeps j (List.mem_cons_of_mem _ hj)) (keeps i List.mem_cons_self s u hs hi) h
    | fault f => cases f
    | refused r => rw [hi] at h; cases h

/-- What every engine command keeps, the commands of a `RUNALL` keep. -/
theorem runallCmd_invariant {P : State → Prop}
    (keeps : ∀ i : Instr, i.isCore = true → ∀ s t, P s → exec i s = .next t → P t) (key frame : List Bool)
    {s : State} (hs : P s) : P (runallCmd Config.std key frame s) :=
  runSeq_invariant (fun i hi => keeps i (Laws.WordCount.isCore_of_mem_runallCommands hi)) hs
    (runSeq_runallCommands key frame s)

/-! ### The invariants, one row for each phase (R35) -/

/-- What the invariants ask of a state whose phase is the given one. -/
def PhaseInv (s : State) : Phase → Prop
  | .notStarted => s.count = 0#8
  | .zeroed => s.count = 0#8 ∧ (1 ≤ s.klen.toNat ∧ 1 ≤ s.flen.toNat) ∧ s.r1 = 0#19 ∧ s.r2 = 0#22 ∧ s.r3 = 0#23
  | .keyMixing => (1 ≤ s.count.toNat ∧ s.count.toNat < s.klen.toNat) ∧ 1 ≤ s.klen.toNat ∧ 1 ≤ s.flen.toNat
  | .frameMixing => s.count.toNat < s.flen.toNat ∧ 1 ≤ s.klen.toNat ∧ 1 ≤ s.flen.toNat
  | .discardClocking => s.count.toNat < Config.std.ndisc ∧ 1 ≤ s.klen.toNat ∧ 1 ≤ s.flen.toNat
  | .ready => s.count = 0#8 ∧ 1 ≤ s.klen.toNat ∧ 1 ≤ s.flen.toNat

theorem engineInv_iff_phaseInv {s : State} {p : Phase} (hp : s.phase = p) : EngineInv s ↔ PhaseInv s p := by
  constructor
  · rintro ⟨zero, key, frame, discard, lengths, regs⟩
    cases p <;> simp_all [PhaseInv]
  · intro h
    cases p <;> constructor <;> simp_all [PhaseInv]

/-- The invariants do not read the response. -/
theorem engineInv_answered {s : State} (h : EngineInv s) (w : RspWord) : EngineInv (answered s w) :=
  ⟨h.count_zero, h.count_key, h.count_frame, h.count_discard, h.lengths_pos, h.zeroed_regs⟩

theorem engineInv_idlePeriod {s : State} (h : EngineInv s) (rest : List HostInput) :
    EngineInv (idlePeriod { s with inputs := rest }) :=
  ⟨h.count_zero, h.count_key, h.count_frame, h.count_discard, h.lengths_pos, h.zeroed_regs⟩

theorem engineInv_hardwareReset (s : State) : EngineInv (hardwareReset s) :=
  (engineInv_iff_phaseInv (p := .notStarted) rfl).2 rfl

/-! ### Every command keeps the invariants -/

theorem zeroCmd_keeps_engineInv (k f : Len) {s : State} (h : EngineInv s) : EngineInv (zeroCmd k f s) := by
  obtain ⟨-, hz⟩ | ⟨hk, hf, hz⟩ := zeroCmd_cases k f s <;> rw [hz]
  · exact engineInv_answered h _
  · exact (engineInv_iff_phaseInv (p := .zeroed) rfl).2
      ⟨rfl, ⟨one_le_toNat_of_ne_zero hk, one_le_toNat_of_ne_zero hf⟩, rfl, rfl, rfl⟩

/-- One counted step that is not the last leaves the counter, one higher, below the limit. -/
theorem CountsStep.counter_of_more {p next : Phase} {limit : Nat} {s t : State} (h : CountsStep p next limit s t)
    (hbelow : s.count.toNat < limit) (hlimit : limit ≤ 255) (hmore : s.count.toNat + 1 ≠ limit) :
    t.phase = p ∧ t.count.toNat = s.count.toNat + 1 ∧ t.count.toNat < limit := by
  obtain ⟨phase, count⟩ := h.of_more hmore
  have hsucc : t.count.toNat = s.count.toNat + 1 := by rw [count, count_succ_toNat (by omega)]
  exact ⟨phase, hsucc, by omega⟩

theorem mixkeyCmd_keeps_engineInv (b : Bool) {s : State} (h : EngineInv s) :
    EngineInv (mixkeyCmd Config.std b s) := by
  obtain ⟨e, -, hm⟩ | ⟨hp, -⟩ := mixkeyCmd_cases Config.std b s
  · exact hm ▸ engineInv_answered h _
  · have home := (phaseError_mixkey_eq_none _).1 hp
    obtain ⟨-, counts, klen, flen, -, -⟩ := mixkeyCmd_mixesBit home b
    have lengths : 1 ≤ s.klen.toNat ∧ 1 ≤ s.flen.toNat := h.lengths_pos (by rintro hn; simp [hn] at home)
    have below : s.count.toNat < s.klen.toNat := by
      obtain hz | hk := home
      · rw [h.count_of_zeroed hz]; exact lengths.1
      · exact (h.count_key hk).2
    by_cases hlast : s.count.toNat + 1 = s.klen.toNat
    · obtain ⟨phase, count⟩ := counts.of_last hlast
      rw [engineInv_iff_phaseInv phase, PhaseInv, count, klen, flen]
      exact ⟨lengths.2, lengths⟩
    · obtain ⟨phase, count, hlt⟩ := counts.counter_of_more below (by omega) hlast
      rw [engineInv_iff_phaseInv phase, PhaseInv, klen, flen]
      exact ⟨⟨by omega, hlt⟩, lengths⟩

theorem mixframeCmd_keeps_engineInv (b : Bool) {s : State} (h : EngineInv s) :
    EngineInv (mixframeCmd Config.std b s) := by
  obtain ⟨e, -, hm⟩ | ⟨hp, -⟩ := mixframeCmd_cases Config.std b s
  · exact hm ▸ engineInv_answered h _
  · have home := (phaseError_single_eq_none _ _).1 hp
    obtain ⟨-, counts, klen, flen, -, -⟩ := mixframeCmd_mixesBit home b
    obtain ⟨below, lengths⟩ : PhaseInv s .frameMixing := (engineInv_iff_phaseInv home).1 h
    by_cases hlast : s.count.toNat + 1 = s.flen.toNat
    · obtain ⟨phase, count⟩ := counts.of_last hlast
      rw [engineInv_iff_phaseInv phase, PhaseInv, count, klen, flen]
      exact ⟨by decide, lengths⟩
    · obtain ⟨phase, -, hlt⟩ := counts.counter_of_more below (by omega) hlast
      rw [engineInv_iff_phaseInv phase, PhaseInv, klen, flen]
      exact ⟨hlt, lengths⟩

/-- In its home phase `DISCARD` counts one discard clock, whatever the parameters are. -/
theorem discardCmd_counts {s : State} (home : s.phase = .discardClocking) (c : Config) :
    CountsStep .discardClocking .ready c.ndisc s (discardCmd c s) := by
  rw [discardCmd_of_home home]
  exact countsStep_respond_progress _ _ _ _ _ _ (decideAndClock_after_count ..)

theorem discardCmd_keeps_engineInv {s : State} (h : EngineInv s) : EngineInv (discardCmd Config.std s) := by
  obtain ⟨e, -, hd⟩ | ⟨hp, -⟩ := discardCmd_cases Config.std s
  · exact hd ▸ engineInv_answered h _
  · have home := (phaseError_single_eq_none _ _).1 hp
    obtain ⟨below, lengths⟩ : PhaseInv s .discardClocking := (engineInv_iff_phaseInv home).1 h
    have counts := discardCmd_counts home Config.std
    have klen : (discardCmd Config.std s).klen = s.klen := by simp [discardCmd_of_home home]
    have flen : (discardCmd Config.std s).flen = s.flen := by simp [discardCmd_of_home home]
    by_cases hlast : s.count.toNat + 1 = Config.std.ndisc
    · obtain ⟨phase, count⟩ := counts.of_last hlast
      rw [engineInv_iff_phaseInv phase, PhaseInv, klen, flen]
      exact ⟨count, lengths⟩
    · obtain ⟨phase, -, hlt⟩ := counts.counter_of_more below (by decide) hlast
      rw [engineInv_iff_phaseInv phase, PhaseInv, klen, flen]
      exact ⟨hlt, lengths⟩

theorem nextbitCmd_keeps_engineInv {s : State} (h : EngineInv s) : EngineInv (nextbitCmd Config.std s) := by
  obtain ⟨e, -, hn⟩ | ⟨hp, hn⟩ := nextbitCmd_cases Config.std s
  · exact hn ▸ engineInv_answered h _
  · have home := (phaseError_single_eq_none _ _).1 hp
    have phase : (nextbitCmd Config.std s).phase = .ready := by simpa [hn] using home
    rw [engineInv_iff_phaseInv phase, hn]
    simpa [PhaseInv] using (engineInv_iff_phaseInv home).1 h

theorem observeSelected_keeps_engineInv (sel : BitVec 2) (acc : RegName → Except Err Bool) {s : State}
    (h : EngineInv s) : EngineInv (observeSelected sel acc s) := by
  obtain ⟨w, hw⟩ := observeSelected_eq_answered sel acc s
  exact hw ▸ engineInv_answered h w

theorem exec_core_keeps_engineInv {i : Instr} (hi : i.isCore = true) {s t : State} (hinv : EngineInv s)
    (h : exec i s = .next t) : EngineInv t := by
  cases i with
  | runall => cases hi
  | zero k f => cases h; exact zeroCmd_keeps_engineInv k f hinv
  | mixkey b => cases h; exact mixkeyCmd_keeps_engineInv b hinv
  | mixframe b => cases h; exact mixframeCmd_keeps_engineInv b hinv
  | discard => cases h; exact discardCmd_keeps_engineInv hinv
  | nextbit => cases h; exact nextbitCmd_keeps_engineInv hinv
  | read | rdclk | rdout => cases h; exact observeSelected_keeps_engineInv _ _ hinv

theorem exec_keeps_engineInv {i : Instr} {s t : State} (hinv : EngineInv s) (h : exec i s = .next t) :
    EngineInv t := by
  cases i with
  | runall key frame =>
    obtain ⟨-, rfl⟩ | ⟨-, -, -, rfl⟩ := execRunall_cases h
    · exact engineInv_reportDriver (engineInv_idlePeriod hinv s.inputs) _
    · exact engineInv_reportDriver
        (runallCmd_invariant (fun _ hi _ _ => exec_core_keeps_engineInv hi) key frame hinv) _
  | _ => exact exec_core_keeps_engineInv rfl hinv h

/-! ### The statements -/

/-- Settles O7: a step idles, resets or executes a command, and each command keeps the row of the phase it ends in. -/
theorem stepKeepsInvariant : Obligations.StepKeepsInvariant := by
  intro s t hinv h
  obtain rfl | rfl | ⟨i, hi⟩ := step_cases h
  · exact engineInv_idlePeriod hinv _
  · exact engineInv_hardwareReset _
  · have consumed : EngineInv { s with inputs := s.inputs.tail } :=
      ⟨hinv.count_zero, hinv.count_key, hinv.count_frame, hinv.count_discard, hinv.lengths_pos, hinv.zeroed_regs⟩
    exact exec_keeps_engineInv consumed hi

/-- Settles O6: in `NotStarted` the invariants ask for a counter of 0 only. -/
theorem resetMeetsInvariant : Obligations.ResetMeetsInvariant :=
  (engineInv_iff_phaseInv (p := .notStarted) rfl).2 rfl

/-- Settles O5: both states of a reset are written with the free values of the reset's number. -/
theorem resetDrawsFreeValues : Obligations.ResetDrawsFreeValues :=
  ⟨⟨rfl, rfl, rfl, rfl⟩, fun _ _ _ _ hin => ⟨_, step_of_reset_period hin, rfl, rfl, rfl, rfl, rfl⟩⟩

/-- Settles O17: the parameters are constants, on which the constraints evaluate to true. -/
theorem instanceParameters : Obligations.InstanceParameters := by
  refine ⟨rfl, rfl, rfl, rfl, rfl, rfl, rfl, rfl, rfl, by decide, fun k => ?_⟩
  cases k <;> rfl

end Sys2Proof.Machine
end

section
/-! Commands as words: every engine command has one word and decodes from it, no string of another length is a word
(30_encoding.md sections 3, 4, 6), and what a step does with a presented word (section 2). -/

namespace Sys2Proof.Machine

open Sys2Proof

theorem exists_encodeWord_of_isCore {i : Instr} (hi : i.isCore = true) : ∃ w, encodeWord i = some w := by
  cases i with
  | runall => cases hi
  | _ => exact ⟨_, rfl⟩

theorem wf_of_isCore {i : Instr} (hi : i.isCore = true) : i.wf = true := by
  cases i with
  | runall => cases hi
  | _ => rfl

/-- Settles O10: the one word that the encoder gives the command is read back by the decoder. -/
theorem engineCommandsDecodeAsEncoded : Obligations.EngineCommandsDecodeAsEncoded := by
  intro i hi
  obtain ⟨w, hw⟩ := exists_encodeWord_of_isCore hi
  exact ⟨wf_of_isCore hi, w, encode_of_encodeWord hw, decode_encodeWord hw⟩

/-- Settles O11: the expansion consists of engine commands, each of which decodes from its word. -/
theorem runallWordsDecodeToItsCommands : Obligations.RunallWordsDecodeToItsCommands :=
  fun _ _ hk hf hd => map_decode_encode_runall hk hf hd

/-- Settles O14: the decoder evaluates to the command on each of the ten words. -/
theorem specWordsDecode : Obligations.SpecWordsDecode :=
  ⟨rfl, rfl, rfl, rfl, rfl, rfl, rfl, rfl, rfl, rfl⟩

/-! ### Strings of 24 bits and of other lengths (R52) -/

theorem commandWord_of_toNat (w : CmdWord) : commandWord 24 w.toNat = .ok w := by
  rw [commandWord, if_pos rfl, BitVec.ofNat_toNat, BitVec.setWidth_eq]

theorem commandWord_of_other_length {nbits : Nat} (h : nbits ≠ 24) (w : Nat) :
    commandWord nbits w = .error (.notCommandWordLength nbits) := if_neg h

theorem decodeBits_of_toNat (w : CmdWord) : decodeBits 24 w.toNat = .ok (decode w) := by
  rw [decodeBits, commandWord_of_toNat]

theorem decodeBits_of_other_length {nbits : Nat} (h : nbits ≠ 24) (w : Nat) :
    decodeBits nbits w = .error (.notCommandWordLength nbits) := by
  rw [decodeBits, commandWord_of_other_length h]

theorem withFetchWord_of_toNat (s : State) (w : CmdWord) :
    s.withFetchWord 24 w.toNat = { s with inputs := presentWord w :: s.inputs } := by
  rw [State.withFetchWord, commandWord_of_toNat]

theorem withFetchWord_of_other_length {nbits : Nat} (h : nbits ≠ 24) (w : Nat) (s : State) :
    s.withFetchWord nbits w = s := by
  rw [State.withFetchWord, commandWord_of_other_length h]

/-- Settles O58: the length is checked first, and the opcode of a command is that of the word it decodes from. -/
theorem onlyCommandWordsDecode : Obligations.OnlyCommandWordsDecode := by
  refine ⟨fun w => ⟨decodeBits_of_toNat w, ?_⟩, fun nbits w h => ⟨decodeBits_of_other_length h w, ?_,
    withFetchWord_of_other_length h w⟩, fun i hi => ?_⟩
  · rw [decodeTableWord, decodeBits_of_toNat]
  · rw [decodeTableWord, decodeBits_of_other_length h]
  · obtain ⟨-, w, encoded, decoded⟩ := engineCommandsDecodeAsEncoded i hi
    exact ⟨w, encoded, decoded ▸ opcodeOf_decode w⟩

/-- Settles O1: the event of the next input is the command, and fetching a word puts it in front of the inputs. -/
theorem stepRunsThePresentedCommand : Obligations.StepRunsThePresentedCommand := by
  refine ⟨fun s w rest hin => step_of_presented_word hin, fun s key frame rest hin => step_of_input hin,
    fun s w => ?_⟩
  rw [withFetchWord_of_toNat]
  exact step_of_presented_word rfl

end Sys2Proof.Machine
end

section
/-! Clocking as a linear map over GF(2) (40_register_primitives.md section 3, 42_init_sequencer.md section 4), and
which registers a majority cycle advances (41_clock_controller.md). -/

namespace Sys2Proof.Machine

open Sys2Proof

/-! ### Mixing is linear -/

theorem shiftConcat_xor {n : Nat} (x y : BitVec n) (a b : Bool) :
    (x ^^^ y).shiftConcat (a ^^ b) = x.shiftConcat a ^^^ y.shiftConcat b := by
  ext i hi
  rw [BitVec.getElem_xor, BitVec.getElem_shiftConcat, BitVec.getElem_shiftConcat, BitVec.getElem_shiftConcat]
  by_cases h : i = 0 <;> simp [h]

theorem regBit_of_registersXor {u s t : State} (h : RegistersXor u s t) (k : RegName) (i : Nat) :
    regBit k i u = (regBit k i s ^^ regBit k i t) := by
  obtain ⟨h1, h2, h3⟩ := h
  cases k <;> simp [regBit, *]

theorem xor_xor_xor_comm (a b c d : Bool) : ((a ^^ b) ^^ (c ^^ d)) = ((a ^^ c) ^^ (b ^^ d)) := by
  rw [Bool.xor_assoc, Bool.xor_left_comm b, ← Bool.xor_assoc]

/-- The XOR of the selected bits is additive in the bits. -/
theorem foldl_xor_add (f g : Nat → Bool) (ts : List Nat) (v w : Bool) :
    ts.foldl (fun z t => z ^^ (f t ^^ g t)) (v ^^ w) =
      (ts.foldl (fun z t => z ^^ f t) v ^^ ts.foldl (fun z t => z ^^ g t) w) := by
  induction ts generalizing v w with
  | nil => rfl
  | cons t ts ih =>
    simp only [List.foldl_cons, xor_xor_xor_comm v w, ih]

theorem fb_of_registersXor {u s t : State} (h : RegistersXor u s t) (c : Config) (k : RegName) (a b : Bool) :
    fb c k (some (a ^^ b)) u = (fb c k (some a) s ^^ fb c k (some b) t) := by
  have taps := foldl_xor_add (fun i => regBit k i s) (fun i => regBit k i t) (c.wiring k).taps false false
  simp only [fb, regBit_of_registersXor h]
  rw [xor_xor_xor_comm, ← taps]
  rfl

/-- Settles O23: the feedback is a XOR of bits of the register and the external bit, and a shift moves bits. -/
theorem clockingIsLinear : Obligations.ClockingIsLinear := by
  intro c a b s t u h
  have ⟨h1, h2, h3⟩ := h
  refine ⟨?_, ?_, ?_⟩
  · rw [mixAll_r1, mixAll_r1, mixAll_r1, fb_of_registersXor h, h1, shiftConcat_xor]
  · rw [mixAll_r2, mixAll_r2, mixAll_r2, fb_of_registersXor h, h2, shiftConcat_xor]
  · rw [mixAll_r3, mixAll_r3, mixAll_r3, fb_of_registersXor h, h3, shiftConcat_xor]

/-- Settles O24: by induction on the two sequences together, each pair of bits by O23. -/
theorem mixingASequenceIsLinear : Obligations.MixingASequenceIsLinear := by
  intro c xs ys s t u hlen h
  induction xs generalizing ys s t u with
  | nil =>
    obtain rfl : ys = [] := List.eq_nil_of_length_eq_zero hlen.symm
    exact h
  | cons a xs ih =>
    cases ys with
    | nil => cases hlen
    | cons b ys => exact ih ys _ _ _ (Nat.succ.inj hlen) (clockingIsLinear c a b s t u h)

/-! ### The advanced set of a majority cycle -/

/-- Two equal clock bits are the majority, so their registers advance, and the third may or may not. -/
theorem clockedMask_maj (a b d : Bool) :
    clockedMask (a == maj a b d) (b == maj a b d) (d == maj a b d) = 0b111#3 ∨
    clockedMask (a == maj a b d) (b == maj a b d) (d == maj a b d) = 0b011#3 ∨
    clockedMask (a == maj a b d) (b == maj a b d) (d == maj a b d) = 0b101#3 ∨
    clockedMask (a == maj a b d) (b == maj a b d) (d == maj a b d) = 0b110#3 := by
  obtain ⟨rfl, hm⟩ | ⟨rfl, hm⟩ | ⟨rfl, hm⟩ := maj_appears_twice a b d
  · rw [hm, beq_self_eq_true]
    cases d == a <;> decide
  · rw [hm, beq_self_eq_true]
    cases b == a <;> decide
  · rw [hm, beq_self_eq_true]
    cases a == b <;> decide

/-- Settles O27: two of the three clock bits are equal and thus the majority. -/
theorem twoOrThreeRegistersAdvance : Obligations.TwoOrThreeRegistersAdvance := by
  intro c s
  rw [decideAndClock_eq]
  exact clockedMask_maj _ _ _

end Sys2Proof.Machine
end

section
/-! What `DISCARD` and `NEXTBIT`, and the two mixing commands, do to the registers alone: the single-cycle form of
43_keystream_generator.md and the pairs of 42_init_sequencer.md section 2. -/

namespace Sys2Proof.Machine

open Sys2Proof

/-! ### The keystream bit from the contents before the command -/

/-- A stage of a register that either keeps its contents or moves them up one stage. -/
theorem getLsbD_of_moved_or_kept {n i : Nat} {r r' : BitVec n} {moves moved : Prop} [Decidable moves]
    (h : if moves then moved else r' = r) (stage : moved → r'.getLsbD (i + 1) = r.getLsbD i) :
    r'.getLsbD (i + 1) = if moves then r.getLsbD i else r.getLsbD (i + 1) := by
  by_cases hm : moves
  · rw [if_pos hm] at h ⊢
    exact stage h
  · rw [if_neg hm] at h ⊢
    rw [h]

/-- Settles O36: `NEXTBIT` answers the XOR of the output taps after its cycle, and each of them is the stage before it
where its register has advanced. -/
theorem nextbitSingleCycleForm : Obligations.NextbitSingleCycleForm := by
  intro s home
  obtain ⟨t, ht, ⟨clocked1, clocked2, clocked3⟩, ⟨-, bit, -⟩, -⟩ := nextbitMakesOneKeystreamBit.1 s home
  refine ⟨t, ht, bit.trans ?_⟩
  rw [getLsbD_of_moved_or_kept clocked1 fun advanced => advanced.2 18 (by decide) (by decide),
    getLsbD_of_moved_or_kept clocked2 fun advanced => advanced.2 21 (by decide) (by decide),
    getLsbD_of_moved_or_kept clocked3 fun advanced => advanced.2 22 (by decide) (by decide)]

/-! ### Equal register contents are transformed alike -/

/-- The two states hold the same register contents. -/
structure SameRegisters (s t : State) : Prop where
  r1 : s.r1 = t.r1
  r2 : s.r2 = t.r2
  r3 : s.r3 = t.r3

theorem SameRegisters.symm {s t : State} (h : SameRegisters s t) : SameRegisters t s :=
  ⟨h.r1.symm, h.r2.symm, h.r3.symm⟩

theorem SameRegisters.trans {s t u : State} (h : SameRegisters s t) (h' : SameRegisters t u) : SameRegisters s u :=
  ⟨h.r1.trans h'.r1, h.r2.trans h'.r2, h.r3.trans h'.r3⟩

theorem SameRegisters.sameReg {s t : State} (h : SameRegisters s t) (k : RegName) : SameReg k s t := by
  intro i
  cases k with
  | r1 => rw [regBit, regBit, h.r1]
  | r2 => rw [regBit, regBit, h.r2]
  | r3 => rw [regBit, regBit, h.r3]

theorem SameRegisters.mixAll {s t : State} (h : SameRegisters s t) (c : Config) (b : Bool) :
    SameRegisters (mixAll c b s) (mixAll c b t) := by
  constructor
  · rw [mixAll_r1, mixAll_r1, h.r1, fb_congr (h.sameReg .r1)]
  · rw [mixAll_r2, mixAll_r2, h.r2, fb_congr (h.sameReg .r2)]
  · rw [mixAll_r3, mixAll_r3, h.r3, fb_congr (h.sameReg .r3)]

/-- A majority cycle reads nothing but the registers. -/
theorem SameRegisters.decideAndClock {s t : State} (h : SameRegisters s t) (c : Config) :
    (decideAndClock c s).majority = (decideAndClock c t).majority ∧
    (decideAndClock c s).clocked = (decideAndClock c t).clocked ∧
    SameRegisters (decideAndClock c s).after (decideAndClock c t).after := by
  have taps (k : RegName) : clockBit c k s = clockBit c k t := h.sameReg k _
  have feedback (k : RegName) : fb c k none s = fb c k none t := fb_congr (h.sameReg k) c none
  simp only [decideAndClock_eq, majOf, taps, feedback, h.r1, h.r2, h.r3]
  exact ⟨trivial, trivial, rfl, rfl, rfl⟩

theorem sameRegisters_mixkeyCmd {s : State} (home : s.phase = .keyMixing) (c : Config) (b : Bool) :
    SameRegisters (mixkeyCmd c b s) (mixAll c b s) := by
  rw [mixkeyCmd, gated_of_none ((phaseError_mixkey_eq_none _).2 (.inr home))]
  constructor <;> simp

theorem sameRegisters_mixframeCmd {s : State} (home : s.phase = .frameMixing) (c : Config) (b : Bool) :
    SameRegisters (mixframeCmd c b s) (mixAll c b s) := by
  rw [mixframeCmd, gated_of_none ((phaseError_single_eq_none _ _).2 home)]
  constructor <;> simp

/-- Settles O37: the one pair mixes, the other performs a majority cycle, and both read the registers alone. -/
theorem pairsShareTheirRegisterTransformation : Obligations.PairsShareTheirRegisterTransformation := by
  refine ⟨fun b s t h1 h2 h3 hs ht => ⟨_, _, exec_mixkey b s, exec_mixframe b t, ?_⟩,
    fun s t h1 h2 h3 hs ht => ⟨_, _, exec_discard s, exec_nextbit t, ?_⟩⟩
  · have mixed := SameRegisters.mixAll ⟨h1, h2, h3⟩ Config.std b
    obtain ⟨r1, r2, r3⟩ := (sameRegisters_mixkeyCmd hs Config.std b).trans
      (mixed.trans (sameRegisters_mixframeCmd ht Config.std b).symm)
    exact ⟨r1, r2, r3⟩
  · obtain ⟨majority, clocked, after⟩ := SameRegisters.decideAndClock ⟨h1, h2, h3⟩ Config.std
    rw [discardCmd_of_home hs, nextbitCmd_of_ready ht]
    simp [majority, clocked, after.r1, after.r2, after.r3]

end Sys2Proof.Machine
end

section
/-! Counting through a phase (10_state.md section 2): any number of key bits, frame bits or discard clocks, by one
induction, and the statements that `COUNT` is their number. -/

namespace Sys2Proof.Machine

open Sys2Proof

/-! ### Any number of counted steps -/

/-- `n` steps of phase `p` are counted from `s` to `t`: fewer than `limit` leave `t` in `p`, the last of them enters
`next` with `COUNT` 0. -/
structure Counted (p next : Phase) (limit n : Nat) (s t : State) : Prop where
  unfinished : s.count.toNat + n < limit → t.phase = p ∧ t.count.toNat = s.count.toNat + n
  finished : s.count.toNat + n = limit → t.phase = next ∧ t.count = 0#8

/-- A command that counts one step wherever `home` holds, which it keeps as long as the phase goes on, counts as many
steps as it is repeated. -/
theorem foldl_counted {α : Type} {f : State → α → State} {home : State → Prop} {p next : Phase} {limit : Nat}
    (hlimit : limit ≤ 255) (counts : ∀ s a, home s → CountsStep p next limit s (f s a))
    (stays : ∀ s a, home s → (f s a).phase = p → home (f s a)) {as : List α} {s : State} (hs : home s)
    (start : as = [] → s.phase = p) (below : s.count.toNat < limit) (fits : s.count.toNat + as.length ≤ limit) :
    Counted p next limit as.length s (as.foldl f s) := by
  induction as generalizing s with
  | nil => exact ⟨fun _ => ⟨start rfl, rfl⟩, fun h => absurd h below.ne⟩
  | cons a as ih =>
    rw [List.length_cons] at fits ⊢
    by_cases hlast : s.count.toNat + 1 = limit
    · obtain rfl : as = [] := List.eq_nil_of_length_eq_zero (by omega)
      exact ⟨fun h => absurd hlast h.ne, fun _ => (counts s a hs).of_last hlast⟩
    · obtain ⟨phase, count, below'⟩ := (counts s a hs).counter_of_more below hlimit hlast
      obtain ⟨unfinished, finished⟩ := ih (stays s a hs phase) (fun _ => phase) below' (by omega)
      rw [count, Nat.add_assoc, Nat.add_comm 1] at unfinished finished
      exact ⟨unfinished, finished⟩

/-- The key bits mixed one after another, element 0 first. -/
def mixKeyBits (key : List Bool) (s : State) : State := key.foldl (fun t b => mixkeyCmd Config.std b t) s

/-- The frame bits mixed one after another, element 0 first. -/
def mixFrameBits (frame : List Bool) (s : State) : State := frame.foldl (fun t b => mixframeCmd Config.std b t) s

theorem runSeq_map_mixkey (key : List Bool) (s : State) : runSeq (key.map .mixkey) s = .next (mixKeyBits key s) :=
  runSeq_map exec_mixkey key s

theorem runSeq_map_mixframe (frame : List Bool) (s : State) :
    runSeq (frame.map .mixframe) s = .next (mixFrameBits frame s) :=
  runSeq_map exec_mixframe frame s

/-- `DISCARD` repeated is a fold over a list of that length. -/
theorem discardTimes_eq_foldl (c : Config) (n : Nat) (s : State) :
    discardTimes c n s = (List.replicate n ()).foldl (fun t _ => discardCmd c t) s := by
  induction n generalizing s with
  | zero => rfl
  | succ n ih => rw [discardTimes_succ, ih, List.replicate_succ, List.foldl_cons]

theorem mixKeyBits_counted {key : List Bool} {s : State} (hne : key ≠ []) (hz : s.phase = .zeroed)
    (hcount : s.count = 0#8) (fits : key.length ≤ s.klen.toNat) :
    Counted .keyMixing .frameMixing s.klen.toNat key.length s (mixKeyBits key s) := by
  have hpos : 0 < key.length := List.length_pos_iff.2 hne
  refine foldl_counted (home := fun u => (u.phase = .zeroed ∨ u.phase = .keyMixing) ∧ u.klen = s.klen) (by omega)
    (fun u b hu => ?_) (fun u b hu phase => ?_) ⟨.inl hz, rfl⟩ (absurd · hne) (by rw [hcount]; exact hpos.trans_le fits)
    (by simpa [hcount] using fits)
  · exact hu.2 ▸ (mixkeyCmd_mixesBit hu.1 b).counts
  · exact ⟨.inr phase, (mixkeyCmd_mixesBit hu.1 b).klen.trans hu.2⟩

theorem mixFrameBits_counted {frame : List Bool} {s : State} (hne : frame ≠ []) (home : s.phase = .frameMixing)
    (hcount : s.count = 0#8) (fits : frame.length ≤ s.flen.toNat) :
    Counted .frameMixing .discardClocking s.flen.toNat frame.length s (mixFrameBits frame s) := by
  have hpos : 0 < frame.length := List.length_pos_iff.2 hne
  refine foldl_counted (home := fun u => u.phase = .frameMixing ∧ u.flen = s.flen) (by omega)
    (fun u b hu => ?_) (fun u b hu phase => ?_) ⟨home, rfl⟩ (absurd · hne) (by rw [hcount]; exact hpos.trans_le fits)
    (by simpa [hcount] using fits)
  · exact hu.2 ▸ (mixframeCmd_mixesBit hu.1 b).counts
  · exact ⟨phase, (mixframeCmd_mixesBit hu.1 b).flen.trans hu.2⟩

theorem discardTimes_counted {c : Config} (hc : c.valid = true) {n : Nat} {s : State}
    (home : s.phase = .discardClocking) (hcount : s.count = 0#8) (fits : n ≤ c.ndisc) :
    Counted .discardClocking .ready c.ndisc n s (discardTimes c n s) := by
  obtain ⟨hpos, hmax⟩ := ndisc_bounds hc
  have counted := foldl_counted (f := fun t (_ : Unit) => discardCmd c t) (as := List.replicate n ()) hmax
    (fun u _ hu => discardCmd_counts hu c) (fun _ _ _ phase => phase) home (fun _ => home)
    (by rw [hcount]; exact hpos) (by simpa [hcount] using fits)
  rwa [List.length_replicate, ← discardTimes_eq_foldl] at counted

/-! ### The statements -/

/-- Settles O43: the key bits are counted from `COUNT` 0, and `FrameMixing` lies behind the home phases of `MIXKEY`. -/
theorem keyBitsAreCountedUntilKlen : Obligations.KeyBitsAreCountedUntilKlen := by
  intro key s hinv hz hpos fits
  have hcount : s.count = 0#8 := hinv.count_of_zeroed hz
  obtain ⟨unfinished, finished⟩ := mixKeyBits_counted (List.length_pos_iff.1 hpos) hz hcount fits
  rw [hcount, BitVec.toNat_zero, Nat.zero_add] at unfinished finished
  refine ⟨_, runSeq_map_mixkey key s, unfinished, fun hlen => ?_⟩
  obtain ⟨phase, count⟩ := finished hlen
  exact ⟨phase, count, fun b => exec_of_late nofun (by rw [phase]; decide +revert)⟩

/-- Settles O44: the frame bits are counted from `COUNT` 0, and `DiscardClocking` lies behind the home phase of
`MIXFRAME`. -/
theorem frameBitsAreCountedUntilFlen : Obligations.FrameBitsAreCountedUntilFlen := by
  intro frame s _ home hcount hpos fits
  obtain ⟨unfinished, finished⟩ := mixFrameBits_counted (List.length_pos_iff.1 hpos) home hcount fits
  rw [hcount, BitVec.toNat_zero, Nat.zero_add] at unfinished finished
  refine ⟨_, runSeq_map_mixframe frame s, unfinished, fun hlen => ?_⟩
  obtain ⟨phase, count⟩ := finished hlen
  exact ⟨phase, count, fun b => exec_of_late nofun (by rw [phase]; decide +revert)⟩

/-- Settles O45: the discard clocks are counted from `COUNT` 0, and `Ready` lies behind the home phase of `DISCARD`. -/
theorem discardClocksAreCountedUntilNdisc : Obligations.DiscardClocksAreCountedUntilNdisc := by
  intro c n s hc home hcount fits
  obtain ⟨unfinished, finished⟩ := discardTimes_counted hc home hcount fits
  rw [hcount, BitVec.toNat_zero, Nat.zero_add] at unfinished finished
  refine ⟨unfinished, fun hn => ?_⟩
  obtain ⟨phase, count⟩ := finished hn
  exact ⟨phase, count, gated_of_late le_rfl (by rw [phase]; decide)⟩

end Sys2Proof.Machine
end

section
/-! The state in which a `RUNALL` ends (42_init_sequencer.md section 3), the all-zero input (section 4), and the
statements on `RUNALL`. -/

namespace Sys2Proof.Machine

open Sys2Proof

/-! ### What a sequence leaves unchanged -/

/-- A sequence of engine commands without `ZERO` keeps both declared lengths. -/
theorem runSeq_keeps_lengths {is : List Instr} (h : ∀ i ∈ is, i.isCore = true ∧ ∀ k f, i ≠ .zero k f)
    {s t : State} (run : runSeq is s = .next t) : t.klen = s.klen ∧ t.flen = s.flen := by
  refine runSeq_invariant (P := fun u => u.klen = s.klen ∧ u.flen = s.flen) (fun i hi u v hu hv => ?_) ⟨rfl, rfl⟩ run
  obtain ⟨core, notZero⟩ := h i hi
  obtain ⟨klen, flen, -⟩ | ⟨k, f, rfl, -⟩ := declaredLengthsWrittenOnlyByZero i u v core hv
  · exact ⟨klen.trans hu.1, flen.trans hu.2⟩
  · exact absurd rfl (notZero k f)

theorem mixKeyBits_keeps_lengths (key : List Bool) (s : State) :
    (mixKeyBits key s).klen = s.klen ∧ (mixKeyBits key s).flen = s.flen :=
  runSeq_keeps_lengths (List.forall_mem_map.2 fun _ _ => ⟨rfl, fun _ _ => Instr.noConfusion⟩)
    (runSeq_map_mixkey key s)

theorem mixFrameBits_keeps_lengths (frame : List Bool) (s : State) :
    (mixFrameBits frame s).klen = s.klen ∧ (mixFrameBits frame s).flen = s.flen :=
  runSeq_keeps_lengths (List.forall_mem_map.2 fun _ _ => ⟨rfl, fun _ _ => Instr.noConfusion⟩)
    (runSeq_map_mixframe frame s)

theorem discardTimes_keeps_lengths (n : Nat) (s : State) :
    (discardTimes Config.std n s).klen = s.klen ∧ (discardTimes Config.std n s).flen = s.flen :=
  runSeq_keeps_lengths (by simp [Instr.isCore]) (runSeq_replicate_discard n s)

/-- A `RUNALL` that is issued keeps the host's inputs and the reset counter. -/
theorem runallCmd_keeps_inputs (key frame : List Bool) (s : State) :
    (runallCmd Config.std key frame s).inputs = s.inputs ∧ (runallCmd Config.std key frame s).draws = s.draws := by
  refine runallCmd_invariant (P := fun u => u.inputs = s.inputs ∧ u.draws = s.draws) (fun i hi u v hu hv => ?_)
    key frame ⟨rfl, rfl⟩
  obtain ⟨-, inputs, draws, -⟩ := (exec_responseOutcome hi hv).answers
  exact ⟨inputs.trans hu.1, draws.trans hu.2⟩

/-! ### The end of a `RUNALL` -/

/-- All discard clocks of an episode end in `Ready`, the last of them with a success that is presented. -/
structure Completes (t : State) : Prop where
  phase : t.phase = .ready
  count : t.count = 0#8
  rspErr : rspErr t.rspWord = 0#3
  rspValid : t.rspValid = true

theorem Completes.reportDriver {t : State} (h : Completes t) (r : DriverReport) : Completes (reportDriver r t) :=
  ⟨h.phase, h.count, h.rspErr, h.rspValid⟩

theorem discardTimes_completes {s : State} (home : s.phase = .discardClocking) (hcount : s.count = 0#8) :
    Completes (discardTimes Config.std 100 s) := by
  obtain ⟨-, finished⟩ := discardTimes_counted (c := Config.std) (n := 100) (by decide) home hcount le_rfl
  obtain ⟨unfinished, -⟩ := discardTimes_counted (c := Config.std) (n := 99) (by decide) home hcount (by decide)
  have last : (discardTimes Config.std 99 s).phase = .discardClocking := (unfinished (by rw [hcount]; decide)).1
  obtain ⟨phase, count⟩ := finished (by rw [hcount]; rfl)
  have outcome := discardCmd_responseOutcome (discardTimes Config.std 99 s)
  refine ⟨phase, count, ?_, ?_⟩
  · rw [discardTimes_succ_last]
    exact discardCmd_succeeds last
  · rw [discardTimes_succ_last]
    exact outcome.answers.rspValid

theorem runallCmd_eq (key frame : List Bool) (s : State) : runallCmd Config.std key frame s =
    discardTimes Config.std 100
      (mixFrameBits frame (mixKeyBits key (zeroCmd (declaredLen key) (declaredLen frame) s))) := rfl

section Declarable

variable {key frame : List Bool} (hk : key ≠ []) (hf : frame ≠ []) (hkl : key.length ≤ 255)
  (hfl : frame.length ≤ 255)

include hk hf hkl hfl

theorem zeroCmd_declaredLen (s : State) : zeroCmd (declaredLen key) (declaredLen frame) s =
    { s with r1 := 0#19, r2 := 0#22, r3 := 0#23, klen := declaredLen key, flen := declaredLen frame, phase := .zeroed,
             count := 0#8, rspValid := true, rspWord := 0x00#8 } :=
  zeroCmd_of_nonempty (declaredLen_ne_zero hk hkl) (declaredLen_ne_zero hf hfl) s

theorem runallCmd_completes (s : State) : Completes (runallCmd Config.std key frame s) := by
  have zeroed := zeroCmd_declaredLen hk hf hkl hfl s
  set u := zeroCmd (declaredLen key) (declaredLen frame) s
  have klen : u.klen.toNat = key.length := by rw [zeroed]; exact declaredLen_toNat hkl
  have flen : (mixKeyBits key u).flen.toNat = frame.length := by
    rw [(mixKeyBits_keeps_lengths key u).2, zeroed]; exact declaredLen_toNat hfl
  have count : u.count = 0#8 := by rw [zeroed]
  obtain ⟨keyed, count'⟩ := (mixKeyBits_counted hk (by rw [zeroed]) count klen.ge).finished
    (by rw [count, klen]; exact Nat.zero_add _)
  obtain ⟨framed, count''⟩ := (mixFrameBits_counted hf keyed count' flen.ge).finished
    (by rw [count', flen]; exact Nat.zero_add _)
  exact discardTimes_completes framed count''

theorem runallCmd_lengths (s : State) : (runallCmd Config.std key frame s).klen = declaredLen key ∧
    (runallCmd Config.std key frame s).flen = declaredLen frame := by
  rw [runallCmd_eq, (discardTimes_keeps_lengths ..).1, (discardTimes_keeps_lengths ..).2,
    (mixFrameBits_keeps_lengths ..).1, (mixFrameBits_keeps_lengths ..).2, (mixKeyBits_keeps_lengths ..).1,
    (mixKeyBits_keeps_lengths ..).2, zeroCmd_declaredLen hk hf hkl hfl]
  exact ⟨rfl, rfl⟩

end Declarable

/-! ### The statements on `RUNALL` -/

theorem execRunall_of_too_long {key frame : List Bool} (hk : key ≠ []) (hf : frame ≠ [])
    (hd : 255 < key.length ∨ 255 < frame.length) (s : State) :
    execRunall key frame s = .refused .runallSequenceTooLong := by
  have undeclarable : ¬ declarable key frame = true := by rw [declarable_iff]; omega
  rw [execRunall, if_neg (by simp [hk, hf]), if_neg undeclarable]

theorem reportDriver_eq (r : DriverReport) (s : State) : reportDriver r s = { s with driverReport := r } := rfl

/-- The commands of a `RUNALL` with the parameters of the spec, as R108 lists them. -/
theorem runSeq_zero_mixkey_mixframe_discard (key frame : List Bool) (s : State) :
    runSeq (.zero (BitVec.ofNat 8 key.length) (BitVec.ofNat 8 frame.length) ::
      (key.map .mixkey ++ frame.map .mixframe ++ List.replicate 100 .discard)) s =
      .next (runallCmd Config.std key frame s) := by
  have ndisc : Config.std.ndisc = 100 := rfl
  rw [← runSeq_runallCommands, runallCommands, ndisc]

/-- Settles O38: the one transition is the run of its commands, whose counts end in `Ready`; emptiness is checked
before the length. -/
theorem runallIssuesTheSequence : Obligations.RunallIssuesTheSequence := by
  refine ⟨fun key frame s hk hf hkl hfl => ?_, fun key frame s h => ?_,
    fun key frame s hk hf h => execRunall_of_too_long hk hf h s⟩
  · have hd : declarable key frame = true := (declarable_iff key frame).2 ⟨hkl, hfl⟩
    obtain ⟨phase, count, err, -⟩ := (runallCmd_completes hk hf hkl hfl s).reportDriver .completed
    obtain ⟨klen, flen⟩ := runallCmd_lengths hk hf hkl hfl s
    obtain ⟨inputs, draws⟩ := runallCmd_keeps_inputs key frame s
    refine ⟨_, runallCmd Config.std key frame s, execRunall_of_declarable hk hf hd s, reportDriver_eq ..,
      runSeq_zero_mixkey_mixframe_discard key frame s, phase, count, ?_, ?_, err, ?_, ?_⟩
    · rw [reportDriver_klen, klen, declaredLen_toNat hkl]
    · rw [reportDriver_flen, flen, declaredLen_toNat hfl]
    · rw [reportDriver_inputs, inputs]
    · rw [reportDriver_draws, draws]
  · exact ⟨_, execRunall_of_empty h s, sameEngine_idlePeriod s s.inputs, rfl, rfl, rfl, rfl⟩

/-- Settles O39: the empty call is a period without a command and the driver's report. -/
theorem runallReportsEmptyInput : Obligations.RunallReportsEmptyInput := by
  intro key frame s h
  refine ⟨execRunall_of_empty h s, fun rest hin =>
    ⟨reportDriver (.failed .emptyInput) (idlePeriod { s with inputs := rest }), ?_, fun _ => rfl,
      sameEngine_idlePeriod s rest, rfl⟩⟩
  rw [stepRunsThePresentedCommand.2.1 s key frame rest hin]
  exact execRunall_of_empty h _

/-- Settles O41: a successful `ZERO` makes two engines alike, and commands keep them so. -/
theorem afterZeroHistoryIsForgotten : Obligations.AfterZeroHistoryIsForgotten := by
  intro klen flen is s s' hk hf core
  obtain ⟨t, t', ht, ht', engine, rspWord⟩ := runSeq_zero_sameAnswer hk hf core s s'
  exact ⟨t, t', ht, ht', engine, rspWord⟩

/-- Settles O57: the words run as the one transition, whose last `DISCARD` presents a response that no earlier state
has influence on. -/
theorem runallLeavesTheLastResponse : Obligations.RunallLeavesTheLastResponse := by
  intro key frame s s' rest hk hf hkl hfl hin
  have hd : declarable key frame = true := (declarable_iff key frame).2 ⟨hkl, hfl⟩
  refine ⟨_, _, runSteps_issue_runall hk hf hkl hfl hin, ?_, execRunall_of_declarable hk hf hd s',
    ((runallCmd_completes hk hf hkl hfl s').reportDriver _).rspValid, ?_⟩
  · rw [exec_runall, execRunall_of_declarable hk hf hd, reportDriver_eq]
  · rw [reportDriver_rspWord]
    exact (runallCmd_sameAnswer hk hf hkl hfl s' _).rspWord

end Sys2Proof.Machine
end

section
/-! All-zero registers (42_init_sequencer.md section 4): zero bits and majority cycles keep them, and the statement on
the all-zero key and frame. -/

namespace Sys2Proof.Machine

open Sys2Proof

/-- Every register bit is 0. -/
structure AllZero (s : State) : Prop where
  r1 : s.r1 = 0#19
  r2 : s.r2 = 0#22
  r3 : s.r3 = 0#23

theorem AllZero.regBit {s : State} (h : AllZero s) (k : RegName) (i : Nat) : regBit k i s = false := by
  obtain ⟨h1, h2, h3⟩ := h
  cases k <;> simp [Machine.regBit, *]

/-- The feedback of zero bits is 0 (R71). -/
theorem AllZero.fb {s : State} (h : AllZero s) (c : Config) (k : RegName) : fb c k none s = false := by
  simp [fb_none_eq_parity, h.regBit]

theorem zero_shiftConcat_false (n : Nat) : (0#n).shiftConcat false = 0#n := by
  ext i hi
  simp [BitVec.getElem_shiftConcat]

theorem AllZero.mixAll_false {s : State} (h : AllZero s) (c : Config) : AllZero (mixAll c false s) := by
  have feedback (k : RegName) : Machine.fb c k (some false) s = false := fb_none c k s ▸ h.fb c k
  constructor <;> simp [feedback, h.r1, h.r2, h.r3, zero_shiftConcat_false]

theorem AllZero.decideAndClock {s : State} (h : AllZero s) (c : Config) : AllZero (decideAndClock c s).after := by
  rw [decideAndClock_eq]
  constructor <;> simp [h.fb, h.r1, h.r2, h.r3, zero_shiftConcat_false]

theorem AllZero.respond {s : State} (h : AllZero s) (b m : Bool) (w : BitVec 3) : AllZero (respond b m w s) :=
  ⟨h.r1, h.r2, h.r3⟩

theorem AllZero.progress {s : State} (h : AllZero s) (p q : Phase) (n : Nat) : AllZero (progress p q n s) :=
  ⟨(progress_r1 ..).trans h.r1, (progress_r2 ..).trans h.r2, (progress_r3 ..).trans h.r3⟩

theorem AllZero.reportDriver {s : State} (h : AllZero s) (r : DriverReport) : AllZero (reportDriver r s) :=
  ⟨h.r1, h.r2, h.r3⟩

/-- A command with a phase check keeps all-zero registers, if its body does. -/
theorem AllZero.gated {s : State} (h : AllZero s) {body : State → State} (hbody : AllZero (body s))
    (first last : Phase) : AllZero (gated first last body s) := by
  obtain ⟨e, -, hg⟩ | ⟨-, hg⟩ := gated_cases first last body s <;> rw [hg]
  · exact ⟨h.r1, h.r2, h.r3⟩
  · exact hbody

/-- The commands that follow the `ZERO` of an all-zero `RUNALL` keep all-zero registers. -/
theorem AllZero.exec {i : Instr} (hi : i = .mixkey false ∨ i = .mixframe false ∨ i = .discard) {s t : State}
    (h : AllZero s) (run : exec i s = .next t) : AllZero t := by
  obtain rfl | rfl | rfl := hi <;> cases run
  · exact h.gated (((h.mixAll_false _).progress ..).respond ..) _ _
  · exact h.gated (((h.mixAll_false _).progress ..).respond ..) _ _
  · exact h.gated (((h.decideAndClock _).progress ..).respond ..) _ _

theorem allZero_runallCmd {m n : Nat} (hk : List.replicate m false ≠ []) (hf : List.replicate n false ≠ [])
    (hkl : (List.replicate m false).length ≤ 255) (hfl : (List.replicate n false).length ≤ 255) (s : State) :
    AllZero (runallCmd Config.std (List.replicate m false) (List.replicate n false) s) := by
  have zeroed : AllZero (zeroCmd (declaredLen (List.replicate m false)) (declaredLen (List.replicate n false)) s) := by
    rw [zeroCmd_declaredLen hk hf hkl hfl]
    exact ⟨rfl, rfl, rfl⟩
  have run := runSeq_runallCommands (List.replicate m false) (List.replicate n false) s
  rw [runallCommands, runSeq_cons_next (exec_zero ..)] at run
  refine runSeq_invariant (fun i hi _ _ h hu => h.exec ?_ hu) zeroed run
  simp only [List.map_replicate, List.mem_append, List.mem_replicate] at hi
  tauto

/-! ### The keystream of all-zero registers -/

theorem nextbitCmd_of_allZero {s : State} (h : AllZero s) (home : s.phase = .ready) :
    AllZero (nextbitCmd Config.std s) ∧ (nextbitCmd Config.std s).phase = .ready ∧
      (nextbitCmd Config.std s).rspWord = 0x07#8 := by
  have after := h.decideAndClock Config.std
  have output : outputXor Config.std (Machine.decideAndClock Config.std s).after = false := by
    simp [outputXor_std, after.r1, after.r2, after.r3]
  have taps (k : RegName) : clockBit Config.std k s = false := h.regBit k _
  have majority : (Machine.decideAndClock Config.std s).majority = false := by simp [decideAndClock_eq, majOf, taps]
  have clocked : (Machine.decideAndClock Config.std s).clocked = clockedMask true true true := by
    simp [decideAndClock_eq, majOf, taps]
  rw [nextbitCmd_of_ready home, output, majority, clocked]
  exact ⟨after.respond .., (decideAndClock_after_phase ..).trans home, rfl⟩

theorem runSeq_nextbit_of_allZero (j : Nat) {s : State} (h : AllZero s) (home : s.phase = .ready) :
    ∃ u, runSeq (List.replicate (j + 1) .nextbit) s = .next u ∧ AllZero u ∧ u.rspWord = 0x07#8 := by
  induction j generalizing s with
  | zero =>
    obtain ⟨zero, -, rspWord⟩ := nextbitCmd_of_allZero h home
    exact ⟨_, rfl, zero, rspWord⟩
  | succ j ih =>
    obtain ⟨zero, phase, -⟩ := nextbitCmd_of_allZero h home
    rw [List.replicate_succ, runSeq_cons_next (exec_nextbit s)]
    exact ih zero phase

/-- Settles O42: `ZERO` clears the registers, zero bits and majority cycles keep them so, and a `NEXTBIT` on them
advances all three registers and reads three zeros. -/
theorem allZeroInputStaysZero : Obligations.AllZeroInputStaysZero := by
  intro m n s hm hm' hn hn'
  have hk : List.replicate m false ≠ [] := by simp; omega
  have hf : List.replicate n false ≠ [] := by simp; omega
  have hkl : (List.replicate m false).length ≤ 255 := by simpa
  have hfl : (List.replicate n false).length ≤ 255 := by simpa
  have zero := (allZero_runallCmd hk hf hkl hfl s).reportDriver .completed
  have ready := ((runallCmd_completes hk hf hkl hfl s).reportDriver .completed).phase
  refine ⟨_, execRunall_of_declarable hk hf ((declarable_iff _ _).2 ⟨hkl, hfl⟩) s, zero.r1, zero.r2, zero.r3,
    fun j => ?_⟩
  obtain ⟨u, hu, ⟨r1, r2, r3⟩, rspWord⟩ := runSeq_nextbit_of_allZero j zero ready
  exact ⟨u, hu, r1, r2, r3, rspWord⟩

end Sys2Proof.Machine
end

section
/-! Rules of the whole machine: which error a command reports, what it leaves unchanged and what it does not read
(60_exceptions.md, 20_memory.md section 3, 42_init_sequencer.md sections 1 to 3). -/

namespace Sys2Proof.Machine

open Sys2Proof

/-! ### The error of an engine command, from its operands and the phase alone (R170) -/

/-- The check of the register select that comes first in every observation command (R174). -/
def selectError (sel : BitVec 2) : Option Err := if selReg sel = none then some .illegalCommand else none

/-- The check of the stage that a `READ` names, where its select is not reserved (R140). -/
def indexError (sel : BitVec 2) (idx : BitVec 5) : Option Err :=
  if ∃ k, selReg sel = some k ∧ k.len ≤ idx.toNat then some .indexOutOfRange else none

/-- The error that an engine command reports in a phase, `none` where it succeeds. -/
def errorOf (p : Phase) : Instr → Option Err
  | .zero k f => if k = 0#8 ∨ f = 0#8 then some .emptyInput else none
  | .mixkey _ => phaseError .zeroed .keyMixing p
  | .mixframe _ => phaseError .frameMixing .frameMixing p
  | .discard => phaseError .discardClocking .discardClocking p
  | .nextbit => phaseError .ready .ready p
  | .read sel idx => (selectError sel).or (indexError sel idx)
  | .rdclk sel => selectError sel
  | .rdout sel => selectError sel
  | .runall _ _ => none

theorem rspErr_gated (first last : Phase) {body : State → State} {s : State}
    (succeeds : rspErr (body s).rspWord = 0#3) :
    rspErr (gated first last body s).rspWord = errCode (phaseError first last s.phase) := by
  obtain ⟨e, he, hg⟩ | ⟨hn, hg⟩ := gated_cases first last body s <;> rw [hg]
  · rw [he, failWith_rspWord, rspErr_responseWord]
  · rw [hn, succeeds]; rfl

theorem rspErr_observeSelected_reg (sel : BitVec 2) (value : RegName → Bool) (s : State) :
    rspErr (observeSelected sel (fun k => .ok (value k)) s).rspWord = errCode (selectError sel) := by
  cases hk : selReg sel with
  | none => rw [observeSelected_of_reserved hk, selectError, if_pos hk, failWith_rspWord, rspErr_responseWord]
  | some k =>
    rw [observeSelected_of_ok hk rfl, selectError, if_neg (by simp [hk])]
    exact rspErr_bitResponse _

theorem rspErr_readCmd (sel : BitVec 2) (idx : BitVec 5) (s : State) :
    rspErr (readCmd sel idx s).rspWord = errCode ((selectError sel).or (indexError sel idx)) := by
  cases hk : selReg sel with
  | none =>
    rw [readCmd, observeSelected_of_reserved hk, selectError, if_pos hk, failWith_rspWord, rspErr_responseWord]
    rfl
  | some k =>
    rw [selectError, if_neg (by simp [hk]), Option.none_or, indexError]
    obtain outside | inside := le_or_gt k.len idx.toNat
    · rw [readCmd_of_outside hk outside, if_pos ⟨k, hk, outside⟩, answered_rspWord]
      rfl
    · rw [readCmd_of_inside hk inside, if_neg (by simpa [hk] using inside)]
      exact rspErr_bitResponse _

theorem rspErr_exec {i : Instr} (hi : i.isCore = true) {s t : State} (h : exec i s = .next t) :
    rspErr t.rspWord = errCode (errorOf s.phase i) := by
  cases i with
  | runall => cases hi
  | zero k f =>
    cases h
    rw [zeroCmd_rspWord, errorOf]
    split <;> rfl
  | mixkey b => cases h; exact rspErr_gated _ _ (rspErr_respond ..)
  | mixframe b => cases h; exact rspErr_gated _ _ (rspErr_respond ..)
  | discard => cases h; exact rspErr_gated _ _ (rspErr_respond ..)
  | nextbit => cases h; exact rspErr_gated _ _ (rspErr_respond ..)
  | read sel idx => cases h; exact rspErr_readCmd sel idx s
  | rdclk sel => cases h; exact rspErr_observeSelected_reg sel (fun k => clockBit Config.std k s) s
  | rdout sel => cases h; exact rspErr_observeSelected_reg sel (fun k => outputBit Config.std k s) s

/-- The code is 0 or one of the list. -/
def ReportsOf (codes : List (BitVec 3)) (e : Option Err) : Prop := errCode e = 0#3 ∨ errCode e ∈ codes

theorem reportsOf_phaseError (first last p : Phase) : ReportsOf [1#3, 2#3] (phaseError first last p) := by
  obtain ⟨-, h⟩ | ⟨-, -, h⟩ | ⟨-, -, h⟩ := phaseError_cases first last p <;> rw [h]
  · exact .inr (by decide)
  · exact .inr (by decide)
  · exact .inl rfl

/-- A command at home in the last phase cannot overrun. -/
theorem reportsOf_phaseError_ready (p : Phase) : ReportsOf [1#3] (phaseError .ready .ready p) := by
  by_cases hp : p = .ready
  · rw [(phaseError_single_eq_none _ _).2 hp]; exact .inl rfl
  · rw [phaseError, if_pos (phaseRank_lt_ready hp)]; exact .inr (by decide)

theorem reportsOf_ite {codes : List (BitVec 3)} {e : Err} (he : errCode (some e) ∈ codes) (check : Prop)
    [Decidable check] : ReportsOf codes (if check then some e else none) := by
  split
  · exact .inr he
  · exact .inl rfl

theorem ReportsOf.or {codes : List (BitVec 3)} {e e' : Option Err} (h : ReportsOf codes e)
    (h' : ReportsOf codes e') : ReportsOf codes (e.or e') := by
  cases e with
  | none => exact h'
  | some e => exact h

theorem errorOf_raisable {i : Instr} (hi : i.isCore = true) (p : Phase) : ReportsOf (raisable i) (errorOf p i) := by
  cases i with
  | runall => cases hi
  | zero k f => exact reportsOf_ite (codes := [3#3]) (by decide) _
  | mixkey | mixframe | discard => exact reportsOf_phaseError ..
  | nextbit => exact reportsOf_phaseError_ready p
  | read sel idx =>
    exact (reportsOf_ite (codes := [4#3, 5#3]) (by decide) _).or (reportsOf_ite (by decide) _)
  | rdclk sel | rdout sel => exact reportsOf_ite (codes := [5#3]) (by decide) _

/-- Settles O48: the error of an engine command comes from its own checks; a `RUNALL` completes, or reports the
emptiness. -/
theorem errorsEachCommandRaises : Obligations.ErrorsEachCommandRaises := by
  refine fun i s t h => ⟨fun hi => ?_, fun hi => ?_⟩
  · rw [rspErr_exec hi h]
    exact errorOf_raisable hi s.phase
  · cases i with
    | runall key frame =>
      obtain ⟨-, rfl⟩ | ⟨hk, hf, hd, rfl⟩ := execRunall_cases h
      · exact .inr ⟨.emptyInput, rfl, List.mem_singleton.2 rfl⟩
      · obtain ⟨hkl, hfl⟩ := (declarable_iff key frame).1 hd
        exact .inl ⟨rfl, ((runallCmd_completes hk hf hkl hfl s).reportDriver _).rspErr⟩
    | _ => cases hi

/-! ### Observation commands -/

theorem isCore_of_observation {i : Instr} {sel : BitVec 2} {idx : BitVec 5}
    (hi : i = .read sel idx ∨ i = .rdclk sel ∨ i = .rdout sel) : i.isCore = true := by
  obtain rfl | rfl | rfl := hi <;> rfl

theorem exec_observation_eq_answered {i : Instr} {sel : BitVec 2} {idx : BitVec 5}
    (hi : i = .read sel idx ∨ i = .rdclk sel ∨ i = .rdout sel) (s : State) :
    ∃ w, exec i s = .next (answered s w) := by
  obtain rfl | rfl | rfl := hi
  all_goals
    obtain ⟨w, hw⟩ := observeSelected_eq_answered sel _ s
    exact ⟨w, congrArg _ hw⟩

/-- Settles O52: an observation only answers, and the answer is not among what it reads. -/
theorem observationsChangeOnlyTheResponse : Obligations.ObservationsChangeOnlyTheResponse := by
  intro i s sel idx hi
  obtain ⟨w, hw⟩ := exec_observation_eq_answered hi s
  exact ⟨answered s w, hw, rfl, exec_withOutside (isCore_of_observation hi) hw (answered s w)⟩

/-! ### What no command touches, and what none reads -/

/-- Settles O53: an engine command writes outside the engine only its answer, and `RUNALL` is a sequence of them. -/
theorem commandsKeepTheHostsInputs : Obligations.CommandsKeepTheHostsInputs := by
  refine ⟨fun i s t h => ?_, fun s t v w rest hin h => ?_⟩
  · cases hi : i.isCore with
    | true =>
      obtain ⟨-, inputs, draws, report⟩ := (exec_responseOutcome hi h).answers
      exact ⟨inputs, draws, fun _ => report⟩
    | false =>
      cases i with
      | runall key frame =>
        obtain ⟨-, rfl⟩ | ⟨-, -, -, rfl⟩ := execRunall_cases h
        · exact ⟨rfl, rfl, nofun⟩
        · rw [reportDriver_inputs, reportDriver_draws]
          exact ⟨(runallCmd_keeps_inputs key frame s).1, (runallCmd_keeps_inputs key frame s).2, nofun⟩
      | _ => cases hi
  · rw [step_of_reset_period hin] at h
    cases h
    exact ⟨rfl, rfl⟩

theorem exec_with_response {i : Instr} (hi : i.isCore = true) (s : State) (v : Bool) (w : RspWord) :
    exec i { s with rspValid := v, rspWord := w } = exec i s := by
  obtain ⟨t, ht⟩ := exists_exec_of_isCore hi s
  obtain ⟨rspValid, inputs, draws, report⟩ := (exec_responseOutcome hi ht).answers
  rw [ht]
  refine (exec_withOutside hi ht { s with rspValid := v, rspWord := w }).trans (congrArg _ ?_)
  simp only [withOutside, answered, ← rspValid, ← inputs, ← draws, ← report]

/-- A `RUNALL` reads the state it starts from only through its `ZERO`. -/
theorem runallCmd_congr {c : Config} {key frame : List Bool} {s s' : State}
    (h : zeroCmd (declaredLen key) (declaredLen frame) s = zeroCmd (declaredLen key) (declaredLen frame) s') :
    runallCmd c key frame s = runallCmd c key frame s' := by
  simp only [runallCmd, h]

theorem execRunall_with_response {key frame : List Bool} (hk : key ≠ []) (hf : frame ≠ []) (s : State) (v : Bool)
    (w : RspWord) : execRunall key frame { s with rspValid := v, rspWord := w } = execRunall key frame s := by
  have zeroed := Host.Outcome.next.inj
    (exec_with_response (i := .zero (declaredLen key) (declaredLen frame)) rfl s v w)
  simp only [execRunall, hk, hf, List.isEmpty_iff, Bool.or_eq_true, or_self, if_false, runallCmd_congr zeroed]

/-- Settles O54: an engine command ignores what lies outside the engine, and a `RUNALL` begins with one or keeps the
word. -/
theorem responseIsNeverReadBack : Obligations.ResponseIsNeverReadBack := by
  refine ⟨fun i s v w hne => ?_, fun key frame s t v w hempty h => ?_⟩
  · cases i with
    | runall key frame =>
      obtain ⟨hk, hf⟩ := hne key frame rfl
      exact execRunall_with_response hk hf s v w
    | _ => exact exec_with_response rfl s v w
  · rw [exec_runall, execRunall_of_empty hempty] at h ⊢
    cases h
    rfl

/-! ### Control does not depend on the register contents -/

theorem CountsStep.determined {p next : Phase} {limit : Nat} {s s' t t' : State} (hcount : s.count = s'.count)
    (h : CountsStep p next limit s t) (h' : CountsStep p next limit s' t') :
    t'.phase = t.phase ∧ t'.count = t.count := by
  by_cases hlast : s.count.toNat + 1 = limit
  · obtain ⟨phase, count⟩ := h.of_last hlast
    obtain ⟨phase', count'⟩ := h'.of_last (hcount ▸ hlast)
    exact ⟨phase'.trans phase.symm, count'.trans count.symm⟩
  · obtain ⟨phase, count⟩ := h.of_more hlast
    obtain ⟨phase', count'⟩ := h'.of_more (hcount ▸ hlast)
    exact ⟨phase'.trans phase.symm, by rw [count, count', hcount]⟩

theorem KeepsControl.symm {s t : State} (h : KeepsControl s t) : KeepsControl t s :=
  ⟨h.phase.symm, h.count.symm, h.klen.symm, h.flen.symm⟩

theorem KeepsControl.trans {s t u : State} (h : KeepsControl s t) (h' : KeepsControl t u) : KeepsControl s u :=
  ⟨h'.phase.trans h.phase, h'.count.trans h.count, h'.klen.trans h.klen, h'.flen.trans h.flen⟩

/-- The control state after a success is determined by the control state before it. -/
theorem SuccessControl.determined {i : Instr} {s s' t t' : State} (same : KeepsControl s s')
    (h : SuccessControl s t i) (h' : SuccessControl s' t' i) : KeepsControl t t' := by
  cases h with
  | zero _ _ phase count klen flen =>
    cases h' with
    | zero _ _ phase' count' klen' flen' =>
      exact ⟨phase'.trans phase.symm, count'.trans count.symm, klen'.trans klen.symm, flen'.trans flen.symm⟩
  | mixkey _ counts klen flen =>
    cases h' with
    | mixkey _ counts' klen' flen' =>
      rw [same.klen] at counts' klen'
      obtain ⟨phase, count⟩ := counts.determined same.count.symm counts'
      exact ⟨phase, count, klen'.trans klen.symm, flen'.trans (same.flen.trans flen.symm)⟩
  | mixframe _ counts klen flen =>
    cases h' with
    | mixframe _ counts' klen' flen' =>
      rw [same.flen] at counts' flen'
      obtain ⟨phase, count⟩ := counts.determined same.count.symm counts'
      exact ⟨phase, count, klen'.trans (same.klen.trans klen.symm), flen'.trans flen.symm⟩
  | discard _ counts klen flen =>
    cases h' with
    | discard _ counts' klen' flen' =>
      obtain ⟨phase, count⟩ := counts.determined same.count.symm counts'
      exact ⟨phase, count, klen'.trans (same.klen.trans klen.symm), flen'.trans (same.flen.trans flen.symm)⟩
  | nextbit keeps => cases h' with | nextbit keeps' => exact keeps.symm.trans (same.trans keeps')
  | read keeps => cases h' with | read keeps' => exact keeps.symm.trans (same.trans keeps')
  | rdclk keeps => cases h' with | rdclk keeps' => exact keeps.symm.trans (same.trans keeps')
  | rdout keeps => cases h' with | rdout keeps' => exact keeps.symm.trans (same.trans keeps')

theorem exec_core_control_determined {i : Instr} (hi : i.isCore = true) {s s' t t' : State}
    (same : KeepsControl s s') (h : exec i s = .next t) (h' : exec i s' = .next t') :
    KeepsControl t t' ∧ rspErr t.rspWord = rspErr t'.rspWord := by
  have err : rspErr t.rspWord = rspErr t'.rspWord := by rw [rspErr_exec hi h, rspErr_exec hi h', same.phase]
  refine ⟨?_, err⟩
  obtain ⟨fails, keeps⟩ | ⟨succeeds, control⟩ := exec_controlOutcome hi h
  · obtain ⟨-, keeps'⟩ | ⟨succeeds', -⟩ := exec_controlOutcome hi h'
    · exact keeps.symm.trans (same.trans keeps')
    · exact absurd (err.trans succeeds') fails
  · obtain ⟨fails', -⟩ | ⟨-, control'⟩ := exec_controlOutcome hi h'
    · exact absurd (err.symm.trans succeeds) fails'
    · exact control.determined same control'

theorem KeepsControl.reportDriver {s t : State} (h : KeepsControl s t) (r : DriverReport) :
    KeepsControl (reportDriver r s) (reportDriver r t) := ⟨h.phase, h.count, h.klen, h.flen⟩

theorem execRunall_control_determined {key frame : List Bool} {s s' t t' : State} (same : KeepsControl s s')
    (h : execRunall key frame s = .next t) (h' : execRunall key frame s' = .next t') :
    KeepsControl t t' ∧ t.driverReport = t'.driverReport := by
  obtain ⟨empty, rfl⟩ | ⟨hk, hf, hd, rfl⟩ := execRunall_cases h
  · obtain ⟨-, rfl⟩ | ⟨hk, hf, -⟩ := execRunall_cases h'
    · exact ⟨⟨same.phase, same.count, same.klen, same.flen⟩, rfl⟩
    · exact absurd empty (not_or.2 ⟨hk, hf⟩)
  · obtain ⟨empty, -⟩ | ⟨-, -, -, rfl⟩ := execRunall_cases h'
    · exact absurd empty (not_or.2 ⟨hk, hf⟩)
    · obtain ⟨hkl, hfl⟩ := (declarable_iff key frame).1 hd
      obtain ⟨-, -, -, phase, count, klen, flen⟩ := (runallCmd_sameAnswer hk hf hkl hfl s' s).engine
      have ends : KeepsControl (runallCmd Config.std key frame s) (runallCmd Config.std key frame s') :=
        ⟨phase, count, klen, flen⟩
      exact ⟨ends.reportDriver _, (reportDriver_driverReport ..).trans (reportDriver_driverReport ..).symm⟩

/-- Settles O55: the error of an engine command comes from its operands and the phase, and with it the control state;
a `RUNALL` that is issued ends alike from any two states. -/
theorem controlIgnoresRegisterContents : Obligations.ControlIgnoresRegisterContents := by
  intro i s s' t t' phase count klen flen h h'
  have same : KeepsControl s s' := ⟨phase.symm, count.symm, klen.symm, flen.symm⟩
  cases hi : i.isCore with
  | true =>
    obtain ⟨⟨phase, count, klen, flen⟩, err⟩ := exec_core_control_determined hi same h h'
    exact ⟨phase.symm, count.symm, klen.symm, flen.symm, fun _ => err, nofun⟩
  | false =>
    cases i with
    | runall key frame =>
      obtain ⟨⟨phase, count, klen, flen⟩, report⟩ := execRunall_control_determined same h h'
      exact ⟨phase.symm, count.symm, klen.symm, flen.symm, nofun, fun _ => report⟩
    | _ => cases hi

/-! ### Periods without a command -/

/-- Settles O56: any positive number of periods without a command is one of them, which withdraws the response and
keeps its word. -/
theorem idlePeriodsKeepTheResponseWord : Obligations.IdlePeriodsKeepTheResponseWord :=
  ⟨fun n _ h => runSteps_of_no_input n h, fun _ _ _ hne h => runSteps_of_unpresented hne h⟩

end Sys2Proof.Machine
end
